-- ==== Sys2Proof/Word.lean ====
section
/-! DEFINITION. The word types of the machine (rules R6, R7, R8). -/

namespace Sys2Proof

/-- A register value, RAM word or instruction word: 16 bits (R6, R8). -/
abbrev Word := BitVec 16

/-- A ROM byte (R31). -/
abbrev Byte := BitVec 8

/-- The program counter, `PC_BITS` = 17 bits, a byte offset into ROM (R24). -/
abbrev PcWord := BitVec 17

/-- The cycle counter, `CC_BITS` = 64 bits (R26). -/
abbrev CcWord := BitVec 64

end Sys2Proof
end

