-- ==== Sys2Proof/Syntax.lean ====
section
/-! DEFINITION. The instruction set as syntax: one constructor of `Instr` per row of spec/opcode_table.json (R2, R81, R92). The
two bits `u` of a C-instruction have no function and are no field (R91). -/

namespace Sys2Proof

/-- The operand-source bit `a`: what the ALU's second operand X is (R85, R122). -/
inductive OperandSource
  /-- `a = 0`: the A register's value. -/
  | regA
  /-- `a = 1`: the RAM word addressed by the A register, M. -/
  | memM
deriving DecidableEq, Repr

/-- The destination field: one independent bit per destination, any subset may be set (R88, R124). -/
structure Dest where
  /-- `d2`: write A. -/
  toA : Bool
  /-- `d1`: write D. -/
  toD : Bool
  /-- `d0`: write M. -/
  toM : Bool
deriving DecidableEq, Repr

/-- The jump field's eight conditions (R89, R171 to R178). -/
inductive Jump
  | never | jgt | jeq | jge | jlt | jne | jle | jmp
deriving DecidableEq, Repr

/-- The instructions. A constructor's docstring gives its row's mnemonic and rule. A name ending in `A1` is the `a = 1` form of
a function that does not use X (R93). -/
inductive Instr
  /-- `@k` (R110), `0kkkkkkkkkkkkkkk`. -/
  | aInstr (k : BitVec 15)
  /-- `dest=0;jump` (R141), `1uu0101010dddjjj`. -/
  | zero (d : Dest) (j : Jump)
  /-- `dest=0;jump (a = 1 form, spelled .word)` (R141), `1uu1101010dddjjj`. -/
  | zeroA1 (d : Dest) (j : Jump)
  /-- `dest=1;jump` (R142), `1uu0111111dddjjj`. -/
  | one (d : Dest) (j : Jump)
  /-- `dest=1;jump (a = 1 form, spelled .word)` (R142), `1uu1111111dddjjj`. -/
  | oneA1 (d : Dest) (j : Jump)
  /-- `dest=-1;jump` (R143), `1uu0111010dddjjj`. -/
  | minusOne (d : Dest) (j : Jump)
  /-- `dest=-1;jump (a = 1 form, spelled .word)` (R143), `1uu1111010dddjjj`. -/
  | minusOneA1 (d : Dest) (j : Jump)
  /-- `dest=D;jump` (R144), `1uu0001100dddjjj`. -/
  | dReg (d : Dest) (j : Jump)
  /-- `dest=D;jump (a = 1 form, spelled .word)` (R144), `1uu1001100dddjjj`. -/
  | dRegA1 (d : Dest) (j : Jump)
  /-- `dest=A;jump` (R145), `1uu0110000dddjjj`. -/
  | aReg (d : Dest) (j : Jump)
  /-- `dest=M;jump` (R145), `1uu1110000dddjjj`. -/
  | mReg (d : Dest) (j : Jump)
  /-- `dest=!D;jump` (R146), `1uu0001101dddjjj`. -/
  | notD (d : Dest) (j : Jump)
  /-- `dest=!D;jump (a = 1 form, spelled .word)` (R146), `1uu1001101dddjjj`. -/
  | notDA1 (d : Dest) (j : Jump)
  /-- `dest=!A;jump` (R147), `1uu0110001dddjjj`. -/
  | notA (d : Dest) (j : Jump)
  /-- `dest=!M;jump` (R147), `1uu1110001dddjjj`. -/
  | notM (d : Dest) (j : Jump)
  /-- `dest=-D;jump` (R148), `1uu0001111dddjjj`. -/
  | negD (d : Dest) (j : Jump)
  /-- `dest=-D;jump (a = 1 form, spelled .word)` (R148), `1uu1001111dddjjj`. -/
  | negDA1 (d : Dest) (j : Jump)
  /-- `dest=-A;jump` (R149), `1uu0110011dddjjj`. -/
  | negA (d : Dest) (j : Jump)
  /-- `dest=-M;jump` (R149), `1uu1110011dddjjj`. -/
  | negM (d : Dest) (j : Jump)
  /-- `dest=D+1;jump` (R150), `1uu0011111dddjjj`. -/
  | incD (d : Dest) (j : Jump)
  /-- `dest=D+1;jump (a = 1 form, spelled .word)` (R150), `1uu1011111dddjjj`. -/
  | incDA1 (d : Dest) (j : Jump)
  /-- `dest=A+1;jump` (R151), `1uu0110111dddjjj`. -/
  | incA (d : Dest) (j : Jump)
  /-- `dest=M+1;jump` (R151), `1uu1110111dddjjj`. -/
  | incM (d : Dest) (j : Jump)
  /-- `dest=D-1;jump` (R152), `1uu0001110dddjjj`. -/
  | decD (d : Dest) (j : Jump)
  /-- `dest=D-1;jump (a = 1 form, spelled .word)` (R152), `1uu1001110dddjjj`. -/
  | decDA1 (d : Dest) (j : Jump)
  /-- `dest=A-1;jump` (R153), `1uu0110010dddjjj`. -/
  | decA (d : Dest) (j : Jump)
  /-- `dest=M-1;jump` (R153), `1uu1110010dddjjj`. -/
  | decM (d : Dest) (j : Jump)
  /-- `dest=D+A;jump` (R154), `1uu0000010dddjjj`. -/
  | dPlusA (d : Dest) (j : Jump)
  /-- `dest=D+M;jump` (R154), `1uu1000010dddjjj`. -/
  | dPlusM (d : Dest) (j : Jump)
  /-- `dest=D-A;jump` (R155), `1uu0010011dddjjj`. -/
  | dMinusA (d : Dest) (j : Jump)
  /-- `dest=D-M;jump` (R155), `1uu1010011dddjjj`. -/
  | dMinusM (d : Dest) (j : Jump)
  /-- `dest=A-D;jump` (R156), `1uu0000111dddjjj`. -/
  | aMinusD (d : Dest) (j : Jump)
  /-- `dest=M-D;jump` (R156), `1uu1000111dddjjj`. -/
  | mMinusD (d : Dest) (j : Jump)
  /-- `dest=D&A;jump` (R157), `1uu0000000dddjjj`. -/
  | dAndA (d : Dest) (j : Jump)
  /-- `dest=D&M;jump` (R157), `1uu1000000dddjjj`. -/
  | dAndM (d : Dest) (j : Jump)
  /-- `dest=D|A;jump` (R158), `1uu0010101dddjjj`. -/
  | dOrA (d : Dest) (j : Jump)
  /-- `dest=D|M;jump` (R158), `1uu1010101dddjjj`. -/
  | dOrM (d : Dest) (j : Jump)
  /-- `.word (unused function code 0b000001)` (R159), `1uua000001dddjjj`. -/
  | unused000001 (a : OperandSource) (d : Dest) (j : Jump)
  /-- `.word (unused function code 0b000011)` (R159), `1uua000011dddjjj`. -/
  | unused000011 (a : OperandSource) (d : Dest) (j : Jump)
  /-- `.word (unused function code 0b000100)` (R159), `1uua000100dddjjj`. -/
  | unused000100 (a : OperandSource) (d : Dest) (j : Jump)
  /-- `.word (unused function code 0b000101)` (R159), `1uua000101dddjjj`. -/
  | unused000101 (a : OperandSource) (d : Dest) (j : Jump)
  /-- `.word (unused function code 0b000110)` (R159), `1uua000110dddjjj`. -/
  | unused000110 (a : OperandSource) (d : Dest) (j : Jump)
  /-- `.word (unused function code 0b001000)` (R159), `1uua001000dddjjj`. -/
  | unused001000 (a : OperandSource) (d : Dest) (j : Jump)
  /-- `.word (unused function code 0b001001)` (R159), `1uua001001dddjjj`. -/
  | unused001001 (a : OperandSource) (d : Dest) (j : Jump)
  /-- `.word (unused function code 0b001010)` (R159), `1uua001010dddjjj`. -/
  | unused001010 (a : OperandSource) (d : Dest) (j : Jump)
  /-- `.word (unused function code 0b001011)` (R159), `1uua001011dddjjj`. -/
  | unused001011 (a : OperandSource) (d : Dest) (j : Jump)
  /-- `.word (unused function code 0b010000)` (R159), `1uua010000dddjjj`. -/
  | unused010000 (a : OperandSource) (d : Dest) (j : Jump)
  /-- `.word (unused function code 0b010001)` (R159), `1uua010001dddjjj`. -/
  | unused010001 (a : OperandSource) (d : Dest) (j : Jump)
  /-- `.word (unused function code 0b010010)` (R159), `1uua010010dddjjj`. -/
  | unused010010 (a : OperandSource) (d : Dest) (j : Jump)
  /-- `.word (unused function code 0b010100)` (R159), `1uua010100dddjjj`. -/
  | unused010100 (a : OperandSource) (d : Dest) (j : Jump)
  /-- `.word (unused function code 0b010110)` (R159), `1uua010110dddjjj`. -/
  | unused010110 (a : OperandSource) (d : Dest) (j : Jump)
  /-- `.word (unused function code 0b010111)` (R159), `1uua010111dddjjj`. -/
  | unused010111 (a : OperandSource) (d : Dest) (j : Jump)
  /-- `.word (unused function code 0b011000)` (R159), `1uua011000dddjjj`. -/
  | unused011000 (a : OperandSource) (d : Dest) (j : Jump)
  /-- `.word (unused function code 0b011001)` (R159), `1uua011001dddjjj`. -/
  | unused011001 (a : OperandSource) (d : Dest) (j : Jump)
  /-- `.word (unused function code 0b011010)` (R159), `1uua011010dddjjj`. -/
  | unused011010 (a : OperandSource) (d : Dest) (j : Jump)
  /-- `.word (unused function code 0b011011)` (R159), `1uua011011dddjjj`. -/
  | unused011011 (a : OperandSource) (d : Dest) (j : Jump)
  /-- `.word (unused function code 0b011100)` (R159), `1uua011100dddjjj`. -/
  | unused011100 (a : OperandSource) (d : Dest) (j : Jump)
  /-- `.word (unused function code 0b011101)` (R159), `1uua011101dddjjj`. -/
  | unused011101 (a : OperandSource) (d : Dest) (j : Jump)
  /-- `.word (unused function code 0b011110)` (R159), `1uua011110dddjjj`. -/
  | unused011110 (a : OperandSource) (d : Dest) (j : Jump)
  /-- `.word (unused function code 0b100000)` (R159), `1uua100000dddjjj`. -/
  | unused100000 (a : OperandSource) (d : Dest) (j : Jump)
  /-- `.word (unused function code 0b100001)` (R159), `1uua100001dddjjj`. -/
  | unused100001 (a : OperandSource) (d : Dest) (j : Jump)
  /-- `.word (unused function code 0b100010)` (R159), `1uua100010dddjjj`. -/
  | unused100010 (a : OperandSource) (d : Dest) (j : Jump)
  /-- `.word (unused function code 0b100011)` (R159), `1uua100011dddjjj`. -/
  | unused100011 (a : OperandSource) (d : Dest) (j : Jump)
  /-- `.word (unused function code 0b100100)` (R159), `1uua100100dddjjj`. -/
  | unused100100 (a : OperandSource) (d : Dest) (j : Jump)
  /-- `.word (unused function code 0b100101)` (R159), `1uua100101dddjjj`. -/
  | unused100101 (a : OperandSource) (d : Dest) (j : Jump)
  /-- `.word (unused function code 0b100110)` (R159), `1uua100110dddjjj`. -/
  | unused100110 (a : OperandSource) (d : Dest) (j : Jump)
  /-- `.word (unused function code 0b100111)` (R159), `1uua100111dddjjj`. -/
  | unused100111 (a : OperandSource) (d : Dest) (j : Jump)
  /-- `.word (unused function code 0b101000)` (R159), `1uua101000dddjjj`. -/
  | unused101000 (a : OperandSource) (d : Dest) (j : Jump)
  /-- `.word (unused function code 0b101001)` (R159), `1uua101001dddjjj`. -/
  | unused101001 (a : OperandSource) (d : Dest) (j : Jump)
  /-- `.word (unused function code 0b101011)` (R159), `1uua101011dddjjj`. -/
  | unused101011 (a : OperandSource) (d : Dest) (j : Jump)
  /-- `.word (unused function code 0b101100)` (R159), `1uua101100dddjjj`. -/
  | unused101100 (a : OperandSource) (d : Dest) (j : Jump)
  /-- `.word (unused function code 0b101101)` (R159), `1uua101101dddjjj`. -/
  | unused101101 (a : OperandSource) (d : Dest) (j : Jump)
  /-- `.word (unused function code 0b101110)` (R159), `1uua101110dddjjj`. -/
  | unused101110 (a : OperandSource) (d : Dest) (j : Jump)
  /-- `.word (unused function code 0b101111)` (R159), `1uua101111dddjjj`. -/
  | unused101111 (a : OperandSource) (d : Dest) (j : Jump)
  /-- `.word (unused function code 0b110100)` (R159), `1uua110100dddjjj`. -/
  | unused110100 (a : OperandSource) (d : Dest) (j : Jump)
  /-- `.word (unused function code 0b110101)` (R159), `1uua110101dddjjj`. -/
  | unused110101 (a : OperandSource) (d : Dest) (j : Jump)
  /-- `.word (unused function code 0b110110)` (R159), `1uua110110dddjjj`. -/
  | unused110110 (a : OperandSource) (d : Dest) (j : Jump)
  /-- `.word (unused function code 0b111000)` (R159), `1uua111000dddjjj`. -/
  | unused111000 (a : OperandSource) (d : Dest) (j : Jump)
  /-- `.word (unused function code 0b111001)` (R159), `1uua111001dddjjj`. -/
  | unused111001 (a : OperandSource) (d : Dest) (j : Jump)
  /-- `.word (unused function code 0b111011)` (R159), `1uua111011dddjjj`. -/
  | unused111011 (a : OperandSource) (d : Dest) (j : Jump)
  /-- `.word (unused function code 0b111100)` (R159), `1uua111100dddjjj`. -/
  | unused111100 (a : OperandSource) (d : Dest) (j : Jump)
  /-- `.word (unused function code 0b111101)` (R159), `1uua111101dddjjj`. -/
  | unused111101 (a : OperandSource) (d : Dest) (j : Jump)
  /-- `.word (unused function code 0b111110)` (R159), `1uua111110dddjjj`. -/
  | unused111110 (a : OperandSource) (d : Dest) (j : Jump)
deriving DecidableEq, Repr

/-- The destination field of a C-instruction; none for the A-instruction, which has no such field (R82, R83). -/
def Instr.dest? : Instr → Option Dest
  | .aInstr _ => none
  | .zero d _ => some d
  | .zeroA1 d _ => some d
  | .one d _ => some d
  | .oneA1 d _ => some d
  | .minusOne d _ => some d
  | .minusOneA1 d _ => some d
  | .dReg d _ => some d
  | .dRegA1 d _ => some d
  | .aReg d _ => some d
  | .mReg d _ => some d
  | .notD d _ => some d
  | .notDA1 d _ => some d
  | .notA d _ => some d
  | .notM d _ => some d
  | .negD d _ => some d
  | .negDA1 d _ => some d
  | .negA d _ => some d
  | .negM d _ => some d
  | .incD d _ => some d
  | .incDA1 d _ => some d
  | .incA d _ => some d
  | .incM d _ => some d
  | .decD d _ => some d
  | .decDA1 d _ => some d
  | .decA d _ => some d
  | .decM d _ => some d
  | .dPlusA d _ => some d
  | .dPlusM d _ => some d
  | .dMinusA d _ => some d
  | .dMinusM d _ => some d
  | .aMinusD d _ => some d
  | .mMinusD d _ => some d
  | .dAndA d _ => some d
  | .dAndM d _ => some d
  | .dOrA d _ => some d
  | .dOrM d _ => some d
  | .unused000001 _ d _ => some d
  | .unused000011 _ d _ => some d
  | .unused000100 _ d _ => some d
  | .unused000101 _ d _ => some d
  | .unused000110 _ d _ => some d
  | .unused001000 _ d _ => some d
  | .unused001001 _ d _ => some d
  | .unused001010 _ d _ => some d
  | .unused001011 _ d _ => some d
  | .unused010000 _ d _ => some d
  | .unused010001 _ d _ => some d
  | .unused010010 _ d _ => some d
  | .unused010100 _ d _ => some d
  | .unused010110 _ d _ => some d
  | .unused010111 _ d _ => some d
  | .unused011000 _ d _ => some d
  | .unused011001 _ d _ => some d
  | .unused011010 _ d _ => some d
  | .unused011011 _ d _ => some d
  | .unused011100 _ d _ => some d
  | .unused011101 _ d _ => some d
  | .unused011110 _ d _ => some d
  | .unused100000 _ d _ => some d
  | .unused100001 _ d _ => some d
  | .unused100010 _ d _ => some d
  | .unused100011 _ d _ => some d
  | .unused100100 _ d _ => some d
  | .unused100101 _ d _ => some d
  | .unused100110 _ d _ => some d
  | .unused100111 _ d _ => some d
  | .unused101000 _ d _ => some d
  | .unused101001 _ d _ => some d
  | .unused101011 _ d _ => some d
  | .unused101100 _ d _ => some d
  | .unused101101 _ d _ => some d
  | .unused101110 _ d _ => some d
  | .unused101111 _ d _ => some d
  | .unused110100 _ d _ => some d
  | .unused110101 _ d _ => some d
  | .unused110110 _ d _ => some d
  | .unused111000 _ d _ => some d
  | .unused111001 _ d _ => some d
  | .unused111011 _ d _ => some d
  | .unused111100 _ d _ => some d
  | .unused111101 _ d _ => some d
  | .unused111110 _ d _ => some d

end Sys2Proof
end

