-- ==== Sys2Proof/Decode.lean ====
section
/-! DEFINITION. Decoding and encoding (30_encoding.md). The bit positions and code values are the rules' own, which the spec
marks as general knowledge (R83, R85, R87, R88, R89; log 1). -/

namespace Sys2Proof

/-- `a = 0` selects A, `a = 1` selects M (R85). -/
def OperandSource.ofBit : Bool → OperandSource
  | false => .regA
  | true => .memM

/-- The operand-source bit of a source (R85). -/
def OperandSource.bit : OperandSource → Bool
  | .regA => false
  | .memM => true

/-- The jump table, indexed by the bits j2, j1, j0 (R86, R89). -/
def jumpTable (j2 j1 j0 : Bool) : Jump :=
  match j2, j1, j0 with
  | false, false, false => .never
  | false, false, true => .jgt
  | false, true, false => .jeq
  | false, true, true => .jge
  | true, false, false => .jlt
  | true, false, true => .jne
  | true, true, false => .jle
  | true, true, true => .jmp

/-- The jump field of a condition (R89). -/
def Jump.code : Jump → BitVec 3
  | .never => 0b000#3
  | .jgt => 0b001#3
  | .jeq => 0b010#3
  | .jge => 0b011#3
  | .jlt => 0b100#3
  | .jne => 0b101#3
  | .jle => 0b110#3
  | .jmp => 0b111#3

/-- The destination field of a set of destinations: d2 = A, d1 = D, d0 = M (R88). -/
def Dest.code (d : Dest) : BitVec 3 :=
  BitVec.ofBool d.toA ++ BitVec.ofBool d.toD ++ BitVec.ofBool d.toM

/-- The instruction of one of the 18 functions, chosen by the operand-source bit between its `a = 0` and `a = 1` rows (R85). -/
def bySource (src : OperandSource) (formA formM : Dest → Jump → Instr) (d : Dest) (j : Jump) : Instr :=
  match src with
  | .regA => formA d j
  | .memM => formM d j

/-- The function table, indexed by the six bits c5 .. c0 of the function code (R86, R87), giving the instruction together with
the other three fields. All 64 codes stand here, the 46 unused ones too (R90). -/
def functionTable (c5 c4 c3 c2 c1 c0 : Bool) (src : OperandSource) (d : Dest) (j : Jump) : Instr :=
  match c5, c4, c3, c2, c1, c0 with
  | false, false, false, false, false, false => bySource src .dAndA .dAndM d j
  | false, false, false, false, false, true => .unused000001 src d j
  | false, false, false, false, true, false => bySource src .dPlusA .dPlusM d j
  | false, false, false, false, true, true => .unused000011 src d j
  | false, false, false, true, false, false => .unused000100 src d j
  | false, false, false, true, false, true => .unused000101 src d j
  | false, false, false, true, true, false => .unused000110 src d j
  | false, false, false, true, true, true => bySource src .aMinusD .mMinusD d j
  | false, false, true, false, false, false => .unused001000 src d j
  | false, false, true, false, false, true => .unused001001 src d j
  | false, false, true, false, true, false => .unused001010 src d j
  | false, false, true, false, true, true => .unused001011 src d j
  | false, false, true, true, false, false => bySource src .dReg .dRegA1 d j
  | false, false, true, true, false, true => bySource src .notD .notDA1 d j
  | false, false, true, true, true, false => bySource src .decD .decDA1 d j
  | false, false, true, true, true, true => bySource src .negD .negDA1 d j
  | false, true, false, false, false, false => .unused010000 src d j
  | false, true, false, false, false, true => .unused010001 src d j
  | false, true, false, false, true, false => .unused010010 src d j
  | false, true, false, false, true, true => bySource src .dMinusA .dMinusM d j
  | false, true, false, true, false, false => .unused010100 src d j
  | false, true, false, true, false, true => bySource src .dOrA .dOrM d j
  | false, true, false, true, true, false => .unused010110 src d j
  | false, true, false, true, true, true => .unused010111 src d j
  | false, true, true, false, false, false => .unused011000 src d j
  | false, true, true, false, false, true => .unused011001 src d j
  | false, true, true, false, true, false => .unused011010 src d j
  | false, true, true, false, true, true => .unused011011 src d j
  | false, true, true, true, false, false => .unused011100 src d j
  | false, true, true, true, false, true => .unused011101 src d j
  | false, true, true, true, true, false => .unused011110 src d j
  | false, true, true, true, true, true => bySource src .incD .incDA1 d j
  | true, false, false, false, false, false => .unused100000 src d j
  | true, false, false, false, false, true => .unused100001 src d j
  | true, false, false, false, true, false => .unused100010 src d j
  | true, false, false, false, true, true => .unused100011 src d j
  | true, false, false, true, false, false => .unused100100 src d j
  | true, false, false, true, false, true => .unused100101 src d j
  | true, false, false, true, true, false => .unused100110 src d j
  | true, false, false, true, true, true => .unused100111 src d j
  | true, false, true, false, false, false => .unused101000 src d j
  | true, false, true, false, false, true => .unused101001 src d j
  | true, false, true, false, true, false => bySource src .zero .zeroA1 d j
  | true, false, true, false, true, true => .unused101011 src d j
  | true, false, true, true, false, false => .unused101100 src d j
  | true, false, true, true, false, true => .unused101101 src d j
  | true, false, true, true, true, false => .unused101110 src d j
  | true, false, true, true, true, true => .unused101111 src d j
  | true, true, false, false, false, false => bySource src .aReg .mReg d j
  | true, true, false, false, false, true => bySource src .notA .notM d j
  | true, true, false, false, true, false => bySource src .decA .decM d j
  | true, true, false, false, true, true => bySource src .negA .negM d j
  | true, true, false, true, false, false => .unused110100 src d j
  | true, true, false, true, false, true => .unused110101 src d j
  | true, true, false, true, true, false => .unused110110 src d j
  | true, true, false, true, true, true => bySource src .incA .incM d j
  | true, true, true, false, false, false => .unused111000 src d j
  | true, true, true, false, false, true => .unused111001 src d j
  | true, true, true, false, true, false => bySource src .minusOne .minusOneA1 d j
  | true, true, true, false, true, true => .unused111011 src d j
  | true, true, true, true, false, false => .unused111100 src d j
  | true, true, true, true, false, true => .unused111101 src d j
  | true, true, true, true, true, false => .unused111110 src d j
  | true, true, true, true, true, true => bySource src .one .oneA1 d j

/-- Bits 14..0 of an A-instruction (R82). -/
def imm15 (w : Word) : BitVec 15 := w.setWidth 15

/-- The operand-source field, bit 12 (R83, R121). -/
def srcField (w : Word) : OperandSource := OperandSource.ofBit w[12]

/-- The destination field, bits 5..3: d2 = A, d1 = D, d0 = M (R83, R88, R121). -/
def destField (w : Word) : Dest := ⟨w[5], w[4], w[3]⟩

/-- The jump field, bits 2..0 (R83, R89, R121). -/
def jumpField (w : Word) : Jump := jumpTable w[2] w[1] w[0]

/-- Decode one instruction word: bit 15 classifies (R81), bits 14..13 of a C-instruction are ignored (R91). Total: no word is
illegal (R92). -/
def decodeWord (w : Word) : Instr :=
  match w[15] with
  | false => .aInstr (imm15 w)
  | true =>
    functionTable w[11] w[10] w[9] w[8] w[7] w[6]
      (srcField w) (destField w) (jumpField w)

/-- The instruction word of two consecutive ROM bytes, the first the more significant (R55, R58). -/
def wordOfBytes (hi lo : Byte) : Word := hi ++ lo

/-- The first, more significant ROM byte of a word (R58). -/
def hiByte (w : Word) : Byte := w.extractLsb' 8 8

/-- The second, less significant ROM byte of a word (R58). -/
def loByte (w : Word) : Byte := w.extractLsb' 0 8

/-- Why bytes hold no instruction. -/
inductive DecodeError
  /-- Fewer than the two bytes of an instruction (R80). -/
  | truncated
deriving DecidableEq, Repr

/-- Decode the instruction at the head of a byte sequence, giving the rest: always two bytes, big-endian (R58, R80). -/
def decode : List Byte → Except DecodeError (Instr × List Byte)
  | hi :: lo :: rest => .ok (decodeWord (wordOfBytes hi lo), rest)
  | [_] => .error .truncated
  | [] => .error .truncated

/-- The word of a C-instruction with the four fields given, R83's formula with both unused bits `u` given too. -/
def cWordU (u : BitVec 2) (src : OperandSource) (c : BitVec 6) (d : Dest) (j : Jump) : Word :=
  0x8000#16 ||| (u.setWidth 16 <<< 13) ||| ((BitVec.ofBool src.bit).setWidth 16 <<< 12) ||| (c.setWidth 16 <<< 6)
    ||| (d.code.setWidth 16 <<< 3) ||| j.code.setWidth 16

/-- The assembler's form of a C-instruction word: u = 0b11 (R83, R91). -/
def cWord (src : OperandSource) (c : BitVec 6) (d : Dest) (j : Jump) : Word := cWordU 0b11#2 src c d j

/-- The word of an instruction, from the tables of R82, R83, R87, R88 and R89, with u = 0b11 for a C-instruction (R91). -/
def encode : Instr → Word
  | .aInstr k => k.setWidth 16
  | .zero d j => cWord .regA 0b101010#6 d j
  | .zeroA1 d j => cWord .memM 0b101010#6 d j
  | .one d j => cWord .regA 0b111111#6 d j
  | .oneA1 d j => cWord .memM 0b111111#6 d j
  | .minusOne d j => cWord .regA 0b111010#6 d j
  | .minusOneA1 d j => cWord .memM 0b111010#6 d j
  | .dReg d j => cWord .regA 0b001100#6 d j
  | .dRegA1 d j => cWord .memM 0b001100#6 d j
  | .aReg d j => cWord .regA 0b110000#6 d j
  | .mReg d j => cWord .memM 0b110000#6 d j
  | .notD d j => cWord .regA 0b001101#6 d j
  | .notDA1 d j => cWord .memM 0b001101#6 d j
  | .notA d j => cWord .regA 0b110001#6 d j
  | .notM d j => cWord .memM 0b110001#6 d j
  | .negD d j => cWord .regA 0b001111#6 d j
  | .negDA1 d j => cWord .memM 0b001111#6 d j
  | .negA d j => cWord .regA 0b110011#6 d j
  | .negM d j => cWord .memM 0b110011#6 d j
  | .incD d j => cWord .regA 0b011111#6 d j
  | .incDA1 d j => cWord .memM 0b011111#6 d j
  | .incA d j => cWord .regA 0b110111#6 d j
  | .incM d j => cWord .memM 0b110111#6 d j
  | .decD d j => cWord .regA 0b001110#6 d j
  | .decDA1 d j => cWord .memM 0b001110#6 d j
  | .decA d j => cWord .regA 0b110010#6 d j
  | .decM d j => cWord .memM 0b110010#6 d j
  | .dPlusA d j => cWord .regA 0b000010#6 d j
  | .dPlusM d j => cWord .memM 0b000010#6 d j
  | .dMinusA d j => cWord .regA 0b010011#6 d j
  | .dMinusM d j => cWord .memM 0b010011#6 d j
  | .aMinusD d j => cWord .regA 0b000111#6 d j
  | .mMinusD d j => cWord .memM 0b000111#6 d j
  | .dAndA d j => cWord .regA 0b000000#6 d j
  | .dAndM d j => cWord .memM 0b000000#6 d j
  | .dOrA d j => cWord .regA 0b010101#6 d j
  | .dOrM d j => cWord .memM 0b010101#6 d j
  | .unused000001 a d j => cWord a 0b000001#6 d j
  | .unused000011 a d j => cWord a 0b000011#6 d j
  | .unused000100 a d j => cWord a 0b000100#6 d j
  | .unused000101 a d j => cWord a 0b000101#6 d j
  | .unused000110 a d j => cWord a 0b000110#6 d j
  | .unused001000 a d j => cWord a 0b001000#6 d j
  | .unused001001 a d j => cWord a 0b001001#6 d j
  | .unused001010 a d j => cWord a 0b001010#6 d j
  | .unused001011 a d j => cWord a 0b001011#6 d j
  | .unused010000 a d j => cWord a 0b010000#6 d j
  | .unused010001 a d j => cWord a 0b010001#6 d j
  | .unused010010 a d j => cWord a 0b010010#6 d j
  | .unused010100 a d j => cWord a 0b010100#6 d j
  | .unused010110 a d j => cWord a 0b010110#6 d j
  | .unused010111 a d j => cWord a 0b010111#6 d j
  | .unused011000 a d j => cWord a 0b011000#6 d j
  | .unused011001 a d j => cWord a 0b011001#6 d j
  | .unused011010 a d j => cWord a 0b011010#6 d j
  | .unused011011 a d j => cWord a 0b011011#6 d j
  | .unused011100 a d j => cWord a 0b011100#6 d j
  | .unused011101 a d j => cWord a 0b011101#6 d j
  | .unused011110 a d j => cWord a 0b011110#6 d j
  | .unused100000 a d j => cWord a 0b100000#6 d j
  | .unused100001 a d j => cWord a 0b100001#6 d j
  | .unused100010 a d j => cWord a 0b100010#6 d j
  | .unused100011 a d j => cWord a 0b100011#6 d j
  | .unused100100 a d j => cWord a 0b100100#6 d j
  | .unused100101 a d j => cWord a 0b100101#6 d j
  | .unused100110 a d j => cWord a 0b100110#6 d j
  | .unused100111 a d j => cWord a 0b100111#6 d j
  | .unused101000 a d j => cWord a 0b101000#6 d j
  | .unused101001 a d j => cWord a 0b101001#6 d j
  | .unused101011 a d j => cWord a 0b101011#6 d j
  | .unused101100 a d j => cWord a 0b101100#6 d j
  | .unused101101 a d j => cWord a 0b101101#6 d j
  | .unused101110 a d j => cWord a 0b101110#6 d j
  | .unused101111 a d j => cWord a 0b101111#6 d j
  | .unused110100 a d j => cWord a 0b110100#6 d j
  | .unused110101 a d j => cWord a 0b110101#6 d j
  | .unused110110 a d j => cWord a 0b110110#6 d j
  | .unused111000 a d j => cWord a 0b111000#6 d j
  | .unused111001 a d j => cWord a 0b111001#6 d j
  | .unused111011 a d j => cWord a 0b111011#6 d j
  | .unused111100 a d j => cWord a 0b111100#6 d j
  | .unused111101 a d j => cWord a 0b111101#6 d j
  | .unused111110 a d j => cWord a 0b111110#6 d j

/-- The mask of an instruction's row in spec/opcode_table.json: which bits of a word the row fixes. `encode` and `decodeWord` do not use it. -/
def Instr.rowMask : Instr → Word
  | .aInstr _ => 0x8000#16
  | .zero _ _ => 0x9FC0#16
  | .zeroA1 _ _ => 0x9FC0#16
  | .one _ _ => 0x9FC0#16
  | .oneA1 _ _ => 0x9FC0#16
  | .minusOne _ _ => 0x9FC0#16
  | .minusOneA1 _ _ => 0x9FC0#16
  | .dReg _ _ => 0x9FC0#16
  | .dRegA1 _ _ => 0x9FC0#16
  | .aReg _ _ => 0x9FC0#16
  | .mReg _ _ => 0x9FC0#16
  | .notD _ _ => 0x9FC0#16
  | .notDA1 _ _ => 0x9FC0#16
  | .notA _ _ => 0x9FC0#16
  | .notM _ _ => 0x9FC0#16
  | .negD _ _ => 0x9FC0#16
  | .negDA1 _ _ => 0x9FC0#16
  | .negA _ _ => 0x9FC0#16
  | .negM _ _ => 0x9FC0#16
  | .incD _ _ => 0x9FC0#16
  | .incDA1 _ _ => 0x9FC0#16
  | .incA _ _ => 0x9FC0#16
  | .incM _ _ => 0x9FC0#16
  | .decD _ _ => 0x9FC0#16
  | .decDA1 _ _ => 0x9FC0#16
  | .decA _ _ => 0x9FC0#16
  | .decM _ _ => 0x9FC0#16
  | .dPlusA _ _ => 0x9FC0#16
  | .dPlusM _ _ => 0x9FC0#16
  | .dMinusA _ _ => 0x9FC0#16
  | .dMinusM _ _ => 0x9FC0#16
  | .aMinusD _ _ => 0x9FC0#16
  | .mMinusD _ _ => 0x9FC0#16
  | .dAndA _ _ => 0x9FC0#16
  | .dAndM _ _ => 0x9FC0#16
  | .dOrA _ _ => 0x9FC0#16
  | .dOrM _ _ => 0x9FC0#16
  | .unused000001 _ _ _ => 0x8FC0#16
  | .unused000011 _ _ _ => 0x8FC0#16
  | .unused000100 _ _ _ => 0x8FC0#16
  | .unused000101 _ _ _ => 0x8FC0#16
  | .unused000110 _ _ _ => 0x8FC0#16
  | .unused001000 _ _ _ => 0x8FC0#16
  | .unused001001 _ _ _ => 0x8FC0#16
  | .unused001010 _ _ _ => 0x8FC0#16
  | .unused001011 _ _ _ => 0x8FC0#16
  | .unused010000 _ _ _ => 0x8FC0#16
  | .unused010001 _ _ _ => 0x8FC0#16
  | .unused010010 _ _ _ => 0x8FC0#16
  | .unused010100 _ _ _ => 0x8FC0#16
  | .unused010110 _ _ _ => 0x8FC0#16
  | .unused010111 _ _ _ => 0x8FC0#16
  | .unused011000 _ _ _ => 0x8FC0#16
  | .unused011001 _ _ _ => 0x8FC0#16
  | .unused011010 _ _ _ => 0x8FC0#16
  | .unused011011 _ _ _ => 0x8FC0#16
  | .unused011100 _ _ _ => 0x8FC0#16
  | .unused011101 _ _ _ => 0x8FC0#16
  | .unused011110 _ _ _ => 0x8FC0#16
  | .unused100000 _ _ _ => 0x8FC0#16
  | .unused100001 _ _ _ => 0x8FC0#16
  | .unused100010 _ _ _ => 0x8FC0#16
  | .unused100011 _ _ _ => 0x8FC0#16
  | .unused100100 _ _ _ => 0x8FC0#16
  | .unused100101 _ _ _ => 0x8FC0#16
  | .unused100110 _ _ _ => 0x8FC0#16
  | .unused100111 _ _ _ => 0x8FC0#16
  | .unused101000 _ _ _ => 0x8FC0#16
  | .unused101001 _ _ _ => 0x8FC0#16
  | .unused101011 _ _ _ => 0x8FC0#16
  | .unused101100 _ _ _ => 0x8FC0#16
  | .unused101101 _ _ _ => 0x8FC0#16
  | .unused101110 _ _ _ => 0x8FC0#16
  | .unused101111 _ _ _ => 0x8FC0#16
  | .unused110100 _ _ _ => 0x8FC0#16
  | .unused110101 _ _ _ => 0x8FC0#16
  | .unused110110 _ _ _ => 0x8FC0#16
  | .unused111000 _ _ _ => 0x8FC0#16
  | .unused111001 _ _ _ => 0x8FC0#16
  | .unused111011 _ _ _ => 0x8FC0#16
  | .unused111100 _ _ _ => 0x8FC0#16
  | .unused111101 _ _ _ => 0x8FC0#16
  | .unused111110 _ _ _ => 0x8FC0#16

/-- The value of the fixed bits of an instruction's row in spec/opcode_table.json. -/
def Instr.rowMatch : Instr → Word
  | .aInstr _ => 0x0000#16
  | .zero _ _ => 0x8A80#16
  | .zeroA1 _ _ => 0x9A80#16
  | .one _ _ => 0x8FC0#16
  | .oneA1 _ _ => 0x9FC0#16
  | .minusOne _ _ => 0x8E80#16
  | .minusOneA1 _ _ => 0x9E80#16
  | .dReg _ _ => 0x8300#16
  | .dRegA1 _ _ => 0x9300#16
  | .aReg _ _ => 0x8C00#16
  | .mReg _ _ => 0x9C00#16
  | .notD _ _ => 0x8340#16
  | .notDA1 _ _ => 0x9340#16
  | .notA _ _ => 0x8C40#16
  | .notM _ _ => 0x9C40#16
  | .negD _ _ => 0x83C0#16
  | .negDA1 _ _ => 0x93C0#16
  | .negA _ _ => 0x8CC0#16
  | .negM _ _ => 0x9CC0#16
  | .incD _ _ => 0x87C0#16
  | .incDA1 _ _ => 0x97C0#16
  | .incA _ _ => 0x8DC0#16
  | .incM _ _ => 0x9DC0#16
  | .decD _ _ => 0x8380#16
  | .decDA1 _ _ => 0x9380#16
  | .decA _ _ => 0x8C80#16
  | .decM _ _ => 0x9C80#16
  | .dPlusA _ _ => 0x8080#16
  | .dPlusM _ _ => 0x9080#16
  | .dMinusA _ _ => 0x84C0#16
  | .dMinusM _ _ => 0x94C0#16
  | .aMinusD _ _ => 0x81C0#16
  | .mMinusD _ _ => 0x91C0#16
  | .dAndA _ _ => 0x8000#16
  | .dAndM _ _ => 0x9000#16
  | .dOrA _ _ => 0x8540#16
  | .dOrM _ _ => 0x9540#16
  | .unused000001 _ _ _ => 0x8040#16
  | .unused000011 _ _ _ => 0x80C0#16
  | .unused000100 _ _ _ => 0x8100#16
  | .unused000101 _ _ _ => 0x8140#16
  | .unused000110 _ _ _ => 0x8180#16
  | .unused001000 _ _ _ => 0x8200#16
  | .unused001001 _ _ _ => 0x8240#16
  | .unused001010 _ _ _ => 0x8280#16
  | .unused001011 _ _ _ => 0x82C0#16
  | .unused010000 _ _ _ => 0x8400#16
  | .unused010001 _ _ _ => 0x8440#16
  | .unused010010 _ _ _ => 0x8480#16
  | .unused010100 _ _ _ => 0x8500#16
  | .unused010110 _ _ _ => 0x8580#16
  | .unused010111 _ _ _ => 0x85C0#16
  | .unused011000 _ _ _ => 0x8600#16
  | .unused011001 _ _ _ => 0x8640#16
  | .unused011010 _ _ _ => 0x8680#16
  | .unused011011 _ _ _ => 0x86C0#16
  | .unused011100 _ _ _ => 0x8700#16
  | .unused011101 _ _ _ => 0x8740#16
  | .unused011110 _ _ _ => 0x8780#16
  | .unused100000 _ _ _ => 0x8800#16
  | .unused100001 _ _ _ => 0x8840#16
  | .unused100010 _ _ _ => 0x8880#16
  | .unused100011 _ _ _ => 0x88C0#16
  | .unused100100 _ _ _ => 0x8900#16
  | .unused100101 _ _ _ => 0x8940#16
  | .unused100110 _ _ _ => 0x8980#16
  | .unused100111 _ _ _ => 0x89C0#16
  | .unused101000 _ _ _ => 0x8A00#16
  | .unused101001 _ _ _ => 0x8A40#16
  | .unused101011 _ _ _ => 0x8AC0#16
  | .unused101100 _ _ _ => 0x8B00#16
  | .unused101101 _ _ _ => 0x8B40#16
  | .unused101110 _ _ _ => 0x8B80#16
  | .unused101111 _ _ _ => 0x8BC0#16
  | .unused110100 _ _ _ => 0x8D00#16
  | .unused110101 _ _ _ => 0x8D40#16
  | .unused110110 _ _ _ => 0x8D80#16
  | .unused111000 _ _ _ => 0x8E00#16
  | .unused111001 _ _ _ => 0x8E40#16
  | .unused111011 _ _ _ => 0x8EC0#16
  | .unused111100 _ _ _ => 0x8F00#16
  | .unused111101 _ _ _ => 0x8F40#16
  | .unused111110 _ _ _ => 0x8F80#16

/-- The instruction the decoder reads from a table row's word: its low `nbits` bits, laid out as two ROM bytes, the more
significant first (R58), and nothing after them. -/
def decodeTableWord (nbits w : Nat) : Option Instr :=
  let word : Word := BitVec.ofNat 16 (w % 2 ^ nbits)
  match decode [hiByte word, loByte word] with
  | .ok (i, []) => some i
  | .ok (_, _ :: _) => none
  | .error _ => none

end Sys2Proof
end

