-- ==== Sys2Proof/Machine/Alu.lean ====
section
/-! DEFINITION. The ALU (42_alu_functions.md). -/

namespace Sys2Proof.Machine

/-- The 18 functions of the ALU in the table's order (R87, R140), and the fallback of the unused codes (R159). -/
inductive AluFn
  | zero | one | minusOne | d | x | notD | notX | negD | negX | incD | incX | decD | decX
  | dPlusX | dMinusX | xMinusD | dAndX | dOrX
  | unused
deriving DecidableEq, Repr

/-- `ALU(c, D, X)` (R140): the 16-bit result, every operation truncating to 16 bits (R160). -/
def alu (f : AluFn) (d x : Word) : Word :=
  match f with
  | .zero => 0x0000#16 -- R141
  | .one => 0x0001#16 -- R142
  | .minusOne => 0xFFFF#16 -- R143
  | .d => d -- R144
  | .x => x -- R145
  | .notD => ~~~d -- R146
  | .notX => ~~~x -- R147
  | .negD => -d -- R148
  | .negX => -x -- R149
  | .incD => d + 1#16 -- R150
  | .incX => x + 1#16 -- R151
  | .decD => d - 1#16 -- R152
  | .decX => x - 1#16 -- R153
  | .dPlusX => d + x -- R154
  | .dMinusX => d - x -- R155
  | .xMinusD => x - d -- R156
  | .dAndX => d &&& x -- R157
  | .dOrX => d ||| x -- R158
  | .unused => 0x0000#16 -- R159

end Sys2Proof.Machine
end

