-- ==== Sys2Proof/Machine/Flags.lean ====
section
/-! DEFINITION. The jump conditions (43_jump_conditions.md). The core has no flags (R27): a condition is evaluated on the ALU
result of the same instruction, and nothing of it survives the step. -/

namespace Sys2Proof.Machine

/-- `Cond(j, r)` (R170): the condition on the ALU result read as a signed 16-bit integer. -/
def jumpCond (j : Jump) (r : Word) : Bool :=
  match j with
  | .never => false -- R171
  | .jgt => decide (0 < r.toInt) -- R172
  | .jeq => decide (r.toInt = 0) -- R173
  | .jge => decide (0 ≤ r.toInt) -- R174
  | .jlt => decide (r.toInt < 0) -- R175
  | .jne => decide (r.toInt ≠ 0) -- R176
  | .jle => decide (r.toInt ≤ 0) -- R177
  | .jmp => true -- R178

end Sys2Proof.Machine
end

