-- ==== Sys2Proof/Config.lean ====
section
/-! DEFINITION. What the spec leaves to the implementation (rule R6): fixed sizes, and the three parameters "the model takes as
arguments". The parameters are constants WITHOUT A BODY: no proof can see their value, so a claim about the machine holds for
every value the spec allows. -/

namespace Sys2Proof

/-- `FETCH_OOB`: what an instruction fetch outside the loaded ROM does (R6, R57). -/
inductive FetchOob
  /-- Each out-of-range byte reads as 0 (the spec's default). -/
  | zero
  /-- The step ends in `Fault(FetchOutOfRange, pc)` (the reference software). -/
  | fault
deriving DecidableEq, Repr, Inhabited

/-- `JUMP_TARGET_A`: which A a taken jump uses when the same instruction also writes A (R6, R128). -/
inductive JumpTargetA
  /-- The A at the start of the instruction (the spec's default). -/
  | old
  /-- The A after the destination writes. -/
  | new
deriving DecidableEq, Repr, Inhabited

/-- Why `load_rom` rejects a byte sequence (R63). -/
inductive RomRejection
  /-- The sequence is longer than `ROM_MAX_BYTES`. -/
  | romTooLarge
  /-- The sequence has an odd length. -/
  | romOddLength
deriving DecidableEq, Repr, Inhabited

/-- `RAM_WORDS` = 65536 (R6, R30). -/
def Config.ramWords : Nat := 65536

/-- RAM word 24576, the keyboard register (R61, R65). -/
def Config.keyboardAddr : Nat := 24576

/-- RAM word 16384, the first word of the screen buffer (R61, R64). -/
def Config.screenBase : Nat := 16384

/-- The value of `FETCH_OOB`, left open by the spec (D13; log 4). -/
opaque Config.fetchOob : FetchOob

/-- The value of `JUMP_TARGET_A`, left open by the spec (D7; log 3). -/
opaque Config.jumpTargetA : JumpTargetA

/-- How many instruction slots the ROM can hold, left open by the spec up to its limits: `ROM_MAX_BYTES` is "even, at most
131072" (R6, D10; log 5), so any number from 0 to 65536. -/
opaque Config.romSlots : Fin 65537

/-- `ROM_MAX_BYTES`, the fixed ROM capacity, any even number from 0 to 131072 (R6, R31, R63; log 5). -/
def Config.romMaxBytes : Nat := 2 * Config.romSlots.val

/-- The rejection answered for a byte sequence that is both too long and of odd length: R63 names a rejection for each and
orders neither (log 7). -/
opaque Config.rejectionWhenBoth : List Byte → RomRejection

end Sys2Proof
end

