-- ==== Sys2Proof/Machine/State.lean ====
section
/-! DEFINITION. The state of the core, as plain data: exactly the six components of rule R20. -/

namespace Sys2Proof.Machine

/-- The RAM (R30): pairs of a word address and the 16-bit word there. An address that is not listed reads as 0 (R32, R69). The
canonical form is `Memory.wf` (Machine/Memory.lean). The smallest addressable unit of this RAM is the word, so a cell holds a
word, not a byte (log 8). -/
abbrev Memory := List (Nat × Word)

/-- The architectural state (R20). -/
structure State where
  /-- Register A (R21). -/
  a : Word
  /-- Register D (R22). -/
  d : Word
  /-- The program counter, a byte offset into ROM (R24). -/
  pc : PcWord
  /-- The cycle counter, the count of executed instructions (R26). -/
  cc : CcWord
  /-- The RAM (R30). -/
  ram : Memory
  /-- The ROM: the loaded byte sequence; its length is L (R31). -/
  rom : List Byte
deriving DecidableEq, Repr

/-- Why the machine stops with a fault. R10: "the only fault reason is `FetchOutOfRange`". -/
inductive Fault
  /-- Raised by a fetch at pc >= L under `FETCH_OOB = FAULT` (R57, R195). The hardware stops so too: neither safe nor unsafe
  beside it; a block that records it keeps it (Machine/Interface.lean). -/
  | fetchOutOfRange (pc : PcWord)
deriving DecidableEq, Repr

/-- Why the model gives no next state where the hardware has no outcome the spec describes. -/
inductive Refusal
  /-- Raised by `exec` for an instruction without a meaning; no arm raises it in this model. Safe. -/
  | notModelled (mnemonic : String)
  /-- Raised by a fetch at an odd pc, which "cannot arise and has no defined behaviour to model" (R59, log 6). Safe: the model
  stops in states no run reaches. -/
  | oddFetchAddress (pc : PcWord)
deriving DecidableEq, Repr

/-- The block right after construction (R33): the reset values of R32 and an empty ROM. `reset` of a block that holds a program
keeps that program: `resetState` (Machine/Ops.lean). A program comes to run by a ROM load from outside (R214, log 9). -/
def State.reset : State where
  a := 0#16
  d := 0#16
  pc := 0#17
  cc := 0#64
  ram := []
  rom := []

end Sys2Proof.Machine
end

