-- ==== Sys2Proof/Machine/Memory.lean ====
section
/-! DEFINITION. The access primitives of the RAM (rules R52, R53, R66) and its canonical form. -/

namespace Sys2Proof.Machine

/-- The cells are at strictly rising addresses from `lo` on, inside the RAM, and none holds the value an unlisted address reads
as. -/
def Memory.wfFrom (lo : Nat) : Memory → Bool
  | [] => true
  | (n, v) :: m => decide (lo ≤ n) && decide (n < Config.ramWords) && (v != 0#16) && Memory.wfFrom (n + 1) m

/-- The canonical form of the RAM: equal memories are equal lists. -/
def Memory.wf (m : Memory) : Bool := Memory.wfFrom 0 m

/-- `MemRead(addr, 1)` (R52): the word at an address, 0 where none is listed (R32, R69). An address past the RAM reads as 0
(R66). -/
def Memory.read : Memory → Nat → Word
  | [], _ => 0#16
  | (n, v) :: m, addr => if n = addr then v else Memory.read m addr

/-- The memory without the cell of an address. -/
def Memory.erase : Memory → Nat → Memory
  | [], _ => []
  | (n, v) :: m, addr => if n = addr then Memory.erase m addr else (n, v) :: Memory.erase m addr

/-- The memory with a cell put before the first one at a higher address. -/
def Memory.insert : Memory → Nat → Word → Memory
  | [], addr, w => [(addr, w)]
  | (n, v) :: m, addr, w => if addr < n then (addr, w) :: (n, v) :: m else (n, v) :: Memory.insert m addr w

/-- `MemWrite(addr, 1, v)` (R53): stores the word if the address is within capacity, and ignores it otherwise (R66). Storing 0
lists nothing, which keeps the canonical form. -/
def Memory.write (m : Memory) (addr : Nat) (w : Word) : Memory :=
  if addr < Config.ramWords then
    if w = 0#16 then Memory.erase m addr else Memory.insert (Memory.erase m addr) addr w
  else m

end Sys2Proof.Machine
end

