-- ==== Sys2Proof/Machine/Operands.lean ====
section
/-! DEFINITION. The one operand form of the instruction set (R122) and the addresses an instruction forms. -/

namespace Sys2Proof.Machine

/-- The ALU's second operand X: A, or the RAM word addressed by A (R122). Reading it changes nothing (R60). -/
def operandX (src : OperandSource) (s : State) : Word :=
  match src with
  | .regA => s.a
  | .memM => Memory.read s.ram s.a.toNat

/-- The A-instruction's value, `zext_16(imm15)` (R84). -/
def immediate (k : BitVec 15) : Word := k.setWidth 16

/-- The fall-through, `(pc + 2) mod 2^17` (R24, R127). -/
def nextPc (pc : PcWord) : PcWord := pc + 2#17

/-- The ROM byte offset of instruction slot `t`: `uint16(t) * 2`, which 17 bits hold without truncation (R127). -/
def slotAddress (t : Word) : PcWord := t.setWidth 17 * 2#17

/-- The value T a taken jump doubles (R128), from A at the start of the instruction and the result `r`. When A is not written
the parameter has no effect. -/
def jumpTarget (policy : JumpTargetA) (d : Dest) (aOld r : Word) : Word :=
  match d.toA with
  | false => aOld
  | true =>
    match policy with
    | .old => aOld
    | .new => r

end Sys2Proof.Machine
end

