-- ==== Sys2Proof/Machine/Ops.lean ====
section
/-! DEFINITION. The operations that the meanings and the step are made of: register writes, the common execution of a
C-instruction (R120), instruction fetch (R55 to R57) and the reset operation (R210).

There is no operation that takes an exception and none that returns from one: the core has no trap entry, no saved state and no
return-from-trap instruction (R190, R193, R194). -/

namespace Sys2Proof.Machine

/-- `A <- v`. -/
def State.setA (s : State) (v : Word) : State := { s with a := v }

/-- `D <- v`. -/
def State.setD (s : State) (v : Word) : State := { s with d := v }

/-- `pc <- v`. -/
def State.setPc (s : State) (v : PcWord) : State := { s with pc := v }

/-- `cc <- v`. -/
def State.setCc (s : State) (v : CcWord) : State := { s with cc := v }

/-- The RAM replaced. -/
def State.setRam (s : State) (m : Memory) : State := { s with ram := m }

/-- The ROM replaced. -/
def State.setRom (s : State) (bytes : List Byte) : State := { s with rom := bytes }

/-- `cc <- cc + 1`, modulo 2^64: part of every fetch that delivers an instruction (R26, R56). -/
def State.countInstr (s : State) : State := s.setCc (s.cc + 1#64)

/-- `MemWrite(A, 1, r)` of the destination M, at the present A (R124). -/
def State.storeM (s : State) (r : Word) : State := s.setRam (Memory.write s.ram s.a.toNat r)

/-- The destination writes (R124), in R120's order: M at the A from before the result is assigned to A (R125), then A, then
D. -/
def writeDests (d : Dest) (r : Word) (s : State) : State :=
  let s := if d.toM then s.storeM r else s
  let s := if d.toA then s.setA r else s
  if d.toD then s.setD r else s

/-- The common execution of a C-instruction (R120): the operand, the result, the destination writes, then the jump or the
fall-through (R127). -/
def cInstr (policy : JumpTargetA) (src : OperandSource) (f : AluFn) (d : Dest) (j : Jump) (s : State) : State :=
  let r := alu f s.d (operandX src s)
  (writeDests d r s).setPc (if jumpCond j r then slotAddress (jumpTarget policy d s.a r) else nextPc s.pc)

/-- What a fetch delivers. -/
inductive Fetched
  /-- The instruction word. -/
  | word (w : Word)
  /-- An out-of-range fetch under `FETCH_OOB = FAULT` (R57). -/
  | outOfRange
  /-- An odd fetch address, for which the spec has no behaviour (R59). -/
  | oddAddress
deriving DecidableEq, Repr

/-- `RomByte(addr)` (R54); none when `addr >= L`. -/
def romByte (rom : List Byte) (addr : Nat) : Option Byte := rom[addr]?

/-- Instruction fetch at pc under a value of `FETCH_OOB`: the bytes at pc and pc + 1, big-endian (R55). Out of range, each
out-of-range byte reads as 0, or the fetch fails (R57). -/
def fetchUnder (policy : FetchOob) (s : State) : Fetched :=
  match s.pc[0] with
  | true => .oddAddress
  | false =>
    match romByte s.rom s.pc.toNat, romByte s.rom (s.pc.toNat + 1) with
    | some hi, some lo => .word (wordOfBytes hi lo)
    | hi?, lo? =>
      match policy with
      | .zero => .word (wordOfBytes (hi?.getD 0#8) (lo?.getD 0#8))
      | .fault => .outOfRange

/-- Instruction fetch (R55 to R57). -/
def fetch (s : State) : Fetched := fetchUnder Config.fetchOob s

/-- The ROM with an instruction word at a byte address: zero bytes fill the ROM up to the address if it is shorter. -/
def romWithWord (rom : List Byte) (addr : Nat) (w : Word) : List Byte :=
  (rom ++ List.replicate (addr - rom.length) 0#8).take addr ++ [hiByte w, loByte w] ++ rom.drop (addr + 2)

/-- The `reset` operation (R210): registers, pc, cc and RAM to zero, the ROM kept. -/
def resetState (s : State) : State := State.reset.setRom s.rom

end Sys2Proof.Machine
end

