-- ==== Sys2Proof/Machine/AddSub.lean ====
section
/-! DEFINITION. Meanings of sum and differences (R154 to R156), each over the common C-instruction execution (R120). -/

namespace Sys2Proof.Machine

/-- `dest=D+A;jump` (R154): r = D +16 X, X = A. -/
def execDPlusA (d : Dest) (j : Jump) (s : State) : Host.Outcome State Fault Refusal :=
  .next (cInstr Config.jumpTargetA .regA .dPlusX d j s)

/-- `dest=D+M;jump` (R154): r = D +16 X, X = RAM[A]. -/
def execDPlusM (d : Dest) (j : Jump) (s : State) : Host.Outcome State Fault Refusal :=
  .next (cInstr Config.jumpTargetA .memM .dPlusX d j s)

/-- `dest=D-A;jump` (R155): r = D -16 X, X = A. -/
def execDMinusA (d : Dest) (j : Jump) (s : State) : Host.Outcome State Fault Refusal :=
  .next (cInstr Config.jumpTargetA .regA .dMinusX d j s)

/-- `dest=D-M;jump` (R155): r = D -16 X, X = RAM[A]. -/
def execDMinusM (d : Dest) (j : Jump) (s : State) : Host.Outcome State Fault Refusal :=
  .next (cInstr Config.jumpTargetA .memM .dMinusX d j s)

/-- `dest=A-D;jump` (R156): r = X -16 D, X = A. -/
def execAMinusD (d : Dest) (j : Jump) (s : State) : Host.Outcome State Fault Refusal :=
  .next (cInstr Config.jumpTargetA .regA .xMinusD d j s)

/-- `dest=M-D;jump` (R156): r = X -16 D, X = RAM[A]. -/
def execMMinusD (d : Dest) (j : Jump) (s : State) : Host.Outcome State Fault Refusal :=
  .next (cInstr Config.jumpTargetA .memM .xMinusD d j s)

end Sys2Proof.Machine
end

