-- ==== Sys2Proof/Machine/Complement.lean ====
section
/-! DEFINITION. Meanings of the bitwise complements (R146, R147), each over the common C-instruction execution (R120). -/

namespace Sys2Proof.Machine

/-- `dest=!D;jump` (R146): r = ~D. -/
def execNotD (d : Dest) (j : Jump) (s : State) : Host.Outcome State Fault Refusal :=
  .next (cInstr Config.jumpTargetA .regA .notD d j s)

/-- `dest=!D;jump (a = 1 form, spelled .word)` (R146): r = ~D. -/
def execNotDA1 (d : Dest) (j : Jump) (s : State) : Host.Outcome State Fault Refusal :=
  .next (cInstr Config.jumpTargetA .memM .notD d j s)

/-- `dest=!A;jump` (R147): r = ~X, X = A. -/
def execNotA (d : Dest) (j : Jump) (s : State) : Host.Outcome State Fault Refusal :=
  .next (cInstr Config.jumpTargetA .regA .notX d j s)

/-- `dest=!M;jump` (R147): r = ~X, X = RAM[A]. -/
def execNotM (d : Dest) (j : Jump) (s : State) : Host.Outcome State Fault Refusal :=
  .next (cInstr Config.jumpTargetA .memM .notX d j s)

end Sys2Proof.Machine
end

