-- ==== Sys2Proof/Machine/Constants.lean ====
section
/-! DEFINITION. Meanings of the constant functions 0, 1 and -1 (R141 to R143), each over the common C-instruction execution (R120). -/

namespace Sys2Proof.Machine

/-- `dest=0;jump` (R141): r = 0. -/
def execZero (d : Dest) (j : Jump) (s : State) : Host.Outcome State Fault Refusal :=
  .next (cInstr Config.jumpTargetA .regA .zero d j s)

/-- `dest=0;jump (a = 1 form, spelled .word)` (R141): r = 0. -/
def execZeroA1 (d : Dest) (j : Jump) (s : State) : Host.Outcome State Fault Refusal :=
  .next (cInstr Config.jumpTargetA .memM .zero d j s)

/-- `dest=1;jump` (R142): r = 1. -/
def execOne (d : Dest) (j : Jump) (s : State) : Host.Outcome State Fault Refusal :=
  .next (cInstr Config.jumpTargetA .regA .one d j s)

/-- `dest=1;jump (a = 1 form, spelled .word)` (R142): r = 1. -/
def execOneA1 (d : Dest) (j : Jump) (s : State) : Host.Outcome State Fault Refusal :=
  .next (cInstr Config.jumpTargetA .memM .one d j s)

/-- `dest=-1;jump` (R143): r = 0xFFFF. -/
def execMinusOne (d : Dest) (j : Jump) (s : State) : Host.Outcome State Fault Refusal :=
  .next (cInstr Config.jumpTargetA .regA .minusOne d j s)

/-- `dest=-1;jump (a = 1 form, spelled .word)` (R143): r = 0xFFFF. -/
def execMinusOneA1 (d : Dest) (j : Jump) (s : State) : Host.Outcome State Fault Refusal :=
  .next (cInstr Config.jumpTargetA .memM .minusOne d j s)

end Sys2Proof.Machine
end

