-- ==== Sys2Proof/Machine/Immediate.lean ====
section
/-! DEFINITION. The meaning of the A-instruction (40_a_instruction.md). -/

namespace Sys2Proof.Machine

/-- `@k` (R110): A becomes the zero-extended immediate and pc advances by 2. -/
def execAInstr (k : BitVec 15) (s : State) : Host.Outcome State Fault Refusal :=
  .next ((s.setA (immediate k)).setPc (nextPc s.pc))

end Sys2Proof.Machine
end

