-- ==== Sys2Proof/Machine/IncDec.lean ====
section
/-! DEFINITION. Meanings of increment and decrement (R150 to R153), each over the common C-instruction execution (R120). -/

namespace Sys2Proof.Machine

/-- `dest=D+1;jump` (R150): r = D +16 1. -/
def execIncD (d : Dest) (j : Jump) (s : State) : Host.Outcome State Fault Refusal :=
  .next (cInstr Config.jumpTargetA .regA .incD d j s)

/-- `dest=D+1;jump (a = 1 form, spelled .word)` (R150): r = D +16 1. -/
def execIncDA1 (d : Dest) (j : Jump) (s : State) : Host.Outcome State Fault Refusal :=
  .next (cInstr Config.jumpTargetA .memM .incD d j s)

/-- `dest=A+1;jump` (R151): r = X +16 1, X = A. -/
def execIncA (d : Dest) (j : Jump) (s : State) : Host.Outcome State Fault Refusal :=
  .next (cInstr Config.jumpTargetA .regA .incX d j s)

/-- `dest=M+1;jump` (R151): r = X +16 1, X = RAM[A]. -/
def execIncM (d : Dest) (j : Jump) (s : State) : Host.Outcome State Fault Refusal :=
  .next (cInstr Config.jumpTargetA .memM .incX d j s)

/-- `dest=D-1;jump` (R152): r = D -16 1. -/
def execDecD (d : Dest) (j : Jump) (s : State) : Host.Outcome State Fault Refusal :=
  .next (cInstr Config.jumpTargetA .regA .decD d j s)

/-- `dest=D-1;jump (a = 1 form, spelled .word)` (R152): r = D -16 1. -/
def execDecDA1 (d : Dest) (j : Jump) (s : State) : Host.Outcome State Fault Refusal :=
  .next (cInstr Config.jumpTargetA .memM .decD d j s)

/-- `dest=A-1;jump` (R153): r = X -16 1, X = A. -/
def execDecA (d : Dest) (j : Jump) (s : State) : Host.Outcome State Fault Refusal :=
  .next (cInstr Config.jumpTargetA .regA .decX d j s)

/-- `dest=M-1;jump` (R153): r = X -16 1, X = RAM[A]. -/
def execDecM (d : Dest) (j : Jump) (s : State) : Host.Outcome State Fault Refusal :=
  .next (cInstr Config.jumpTargetA .memM .decX d j s)

end Sys2Proof.Machine
end

