-- ==== Sys2Proof/Machine/Logic.lean ====
section
/-! DEFINITION. Meanings of bitwise and, or (R157, R158), each over the common C-instruction execution (R120). -/

namespace Sys2Proof.Machine

/-- `dest=D&A;jump` (R157): r = D & X, X = A. -/
def execDAndA (d : Dest) (j : Jump) (s : State) : Host.Outcome State Fault Refusal :=
  .next (cInstr Config.jumpTargetA .regA .dAndX d j s)

/-- `dest=D&M;jump` (R157): r = D & X, X = RAM[A]. -/
def execDAndM (d : Dest) (j : Jump) (s : State) : Host.Outcome State Fault Refusal :=
  .next (cInstr Config.jumpTargetA .memM .dAndX d j s)

/-- `dest=D|A;jump` (R158): r = D | X, X = A. -/
def execDOrA (d : Dest) (j : Jump) (s : State) : Host.Outcome State Fault Refusal :=
  .next (cInstr Config.jumpTargetA .regA .dOrX d j s)

/-- `dest=D|M;jump` (R158): r = D | X, X = RAM[A]. -/
def execDOrM (d : Dest) (j : Jump) (s : State) : Host.Outcome State Fault Refusal :=
  .next (cInstr Config.jumpTargetA .memM .dOrX d j s)

end Sys2Proof.Machine
end

