-- ==== Sys2Proof/Machine/Negate.lean ====
section
/-! DEFINITION. Meanings of the negations (R148, R149), each over the common C-instruction execution (R120). -/

namespace Sys2Proof.Machine

/-- `dest=-D;jump` (R148): r = neg16(D). -/
def execNegD (d : Dest) (j : Jump) (s : State) : Host.Outcome State Fault Refusal :=
  .next (cInstr Config.jumpTargetA .regA .negD d j s)

/-- `dest=-D;jump (a = 1 form, spelled .word)` (R148): r = neg16(D). -/
def execNegDA1 (d : Dest) (j : Jump) (s : State) : Host.Outcome State Fault Refusal :=
  .next (cInstr Config.jumpTargetA .memM .negD d j s)

/-- `dest=-A;jump` (R149): r = neg16(X), X = A. -/
def execNegA (d : Dest) (j : Jump) (s : State) : Host.Outcome State Fault Refusal :=
  .next (cInstr Config.jumpTargetA .regA .negX d j s)

/-- `dest=-M;jump` (R149): r = neg16(X), X = RAM[A]. -/
def execNegM (d : Dest) (j : Jump) (s : State) : Host.Outcome State Fault Refusal :=
  .next (cInstr Config.jumpTargetA .memM .negX d j s)

end Sys2Proof.Machine
end

