-- ==== Sys2Proof/Machine/Transfer.lean ====
section
/-! DEFINITION. Meanings of the functions D, A and M (R144, R145), each over the common C-instruction execution (R120). -/

namespace Sys2Proof.Machine

/-- `dest=D;jump` (R144): r = D. -/
def execDReg (d : Dest) (j : Jump) (s : State) : Host.Outcome State Fault Refusal :=
  .next (cInstr Config.jumpTargetA .regA .d d j s)

/-- `dest=D;jump (a = 1 form, spelled .word)` (R144): r = D. -/
def execDRegA1 (d : Dest) (j : Jump) (s : State) : Host.Outcome State Fault Refusal :=
  .next (cInstr Config.jumpTargetA .memM .d d j s)

/-- `dest=A;jump` (R145): r = X, X = A. -/
def execAReg (d : Dest) (j : Jump) (s : State) : Host.Outcome State Fault Refusal :=
  .next (cInstr Config.jumpTargetA .regA .x d j s)

/-- `dest=M;jump` (R145): r = X, X = RAM[A]. -/
def execMReg (d : Dest) (j : Jump) (s : State) : Host.Outcome State Fault Refusal :=
  .next (cInstr Config.jumpTargetA .memM .x d j s)

end Sys2Proof.Machine
end

