-- ==== Sys2Proof/Machine/Unused.lean ====
section
/-! DEFINITION. Meanings of the 46 unused function codes: r = 0, the destinations receive it and the jump condition is evaluated
on it, as for a defined code (R90, R159). -/

namespace Sys2Proof.Machine

/-- Unused function code 0b000001 (R159): r = 0. -/
def execUnused000001 (a : OperandSource) (d : Dest) (j : Jump) (s : State) : Host.Outcome State Fault Refusal :=
  .next (cInstr Config.jumpTargetA a .unused d j s)

/-- Unused function code 0b000011 (R159): r = 0. -/
def execUnused000011 (a : OperandSource) (d : Dest) (j : Jump) (s : State) : Host.Outcome State Fault Refusal :=
  .next (cInstr Config.jumpTargetA a .unused d j s)

/-- Unused function code 0b000100 (R159): r = 0. -/
def execUnused000100 (a : OperandSource) (d : Dest) (j : Jump) (s : State) : Host.Outcome State Fault Refusal :=
  .next (cInstr Config.jumpTargetA a .unused d j s)

/-- Unused function code 0b000101 (R159): r = 0. -/
def execUnused000101 (a : OperandSource) (d : Dest) (j : Jump) (s : State) : Host.Outcome State Fault Refusal :=
  .next (cInstr Config.jumpTargetA a .unused d j s)

/-- Unused function code 0b000110 (R159): r = 0. -/
def execUnused000110 (a : OperandSource) (d : Dest) (j : Jump) (s : State) : Host.Outcome State Fault Refusal :=
  .next (cInstr Config.jumpTargetA a .unused d j s)

/-- Unused function code 0b001000 (R159): r = 0. -/
def execUnused001000 (a : OperandSource) (d : Dest) (j : Jump) (s : State) : Host.Outcome State Fault Refusal :=
  .next (cInstr Config.jumpTargetA a .unused d j s)

/-- Unused function code 0b001001 (R159): r = 0. -/
def execUnused001001 (a : OperandSource) (d : Dest) (j : Jump) (s : State) : Host.Outcome State Fault Refusal :=
  .next (cInstr Config.jumpTargetA a .unused d j s)

/-- Unused function code 0b001010 (R159): r = 0. -/
def execUnused001010 (a : OperandSource) (d : Dest) (j : Jump) (s : State) : Host.Outcome State Fault Refusal :=
  .next (cInstr Config.jumpTargetA a .unused d j s)

/-- Unused function code 0b001011 (R159): r = 0. -/
def execUnused001011 (a : OperandSource) (d : Dest) (j : Jump) (s : State) : Host.Outcome State Fault Refusal :=
  .next (cInstr Config.jumpTargetA a .unused d j s)

/-- Unused function code 0b010000 (R159): r = 0. -/
def execUnused010000 (a : OperandSource) (d : Dest) (j : Jump) (s : State) : Host.Outcome State Fault Refusal :=
  .next (cInstr Config.jumpTargetA a .unused d j s)

/-- Unused function code 0b010001 (R159): r = 0. -/
def execUnused010001 (a : OperandSource) (d : Dest) (j : Jump) (s : State) : Host.Outcome State Fault Refusal :=
  .next (cInstr Config.jumpTargetA a .unused d j s)

/-- Unused function code 0b010010 (R159): r = 0. -/
def execUnused010010 (a : OperandSource) (d : Dest) (j : Jump) (s : State) : Host.Outcome State Fault Refusal :=
  .next (cInstr Config.jumpTargetA a .unused d j s)

/-- Unused function code 0b010100 (R159): r = 0. -/
def execUnused010100 (a : OperandSource) (d : Dest) (j : Jump) (s : State) : Host.Outcome State Fault Refusal :=
  .next (cInstr Config.jumpTargetA a .unused d j s)

/-- Unused function code 0b010110 (R159): r = 0. -/
def execUnused010110 (a : OperandSource) (d : Dest) (j : Jump) (s : State) : Host.Outcome State Fault Refusal :=
  .next (cInstr Config.jumpTargetA a .unused d j s)

/-- Unused function code 0b010111 (R159): r = 0. -/
def execUnused010111 (a : OperandSource) (d : Dest) (j : Jump) (s : State) : Host.Outcome State Fault Refusal :=
  .next (cInstr Config.jumpTargetA a .unused d j s)

/-- Unused function code 0b011000 (R159): r = 0. -/
def execUnused011000 (a : OperandSource) (d : Dest) (j : Jump) (s : State) : Host.Outcome State Fault Refusal :=
  .next (cInstr Config.jumpTargetA a .unused d j s)

/-- Unused function code 0b011001 (R159): r = 0. -/
def execUnused011001 (a : OperandSource) (d : Dest) (j : Jump) (s : State) : Host.Outcome State Fault Refusal :=
  .next (cInstr Config.jumpTargetA a .unused d j s)

/-- Unused function code 0b011010 (R159): r = 0. -/
def execUnused011010 (a : OperandSource) (d : Dest) (j : Jump) (s : State) : Host.Outcome State Fault Refusal :=
  .next (cInstr Config.jumpTargetA a .unused d j s)

/-- Unused function code 0b011011 (R159): r = 0. -/
def execUnused011011 (a : OperandSource) (d : Dest) (j : Jump) (s : State) : Host.Outcome State Fault Refusal :=
  .next (cInstr Config.jumpTargetA a .unused d j s)

/-- Unused function code 0b011100 (R159): r = 0. -/
def execUnused011100 (a : OperandSource) (d : Dest) (j : Jump) (s : State) : Host.Outcome State Fault Refusal :=
  .next (cInstr Config.jumpTargetA a .unused d j s)

/-- Unused function code 0b011101 (R159): r = 0. -/
def execUnused011101 (a : OperandSource) (d : Dest) (j : Jump) (s : State) : Host.Outcome State Fault Refusal :=
  .next (cInstr Config.jumpTargetA a .unused d j s)

/-- Unused function code 0b011110 (R159): r = 0. -/
def execUnused011110 (a : OperandSource) (d : Dest) (j : Jump) (s : State) : Host.Outcome State Fault Refusal :=
  .next (cInstr Config.jumpTargetA a .unused d j s)

/-- Unused function code 0b100000 (R159): r = 0. -/
def execUnused100000 (a : OperandSource) (d : Dest) (j : Jump) (s : State) : Host.Outcome State Fault Refusal :=
  .next (cInstr Config.jumpTargetA a .unused d j s)

/-- Unused function code 0b100001 (R159): r = 0. -/
def execUnused100001 (a : OperandSource) (d : Dest) (j : Jump) (s : State) : Host.Outcome State Fault Refusal :=
  .next (cInstr Config.jumpTargetA a .unused d j s)

/-- Unused function code 0b100010 (R159): r = 0. -/
def execUnused100010 (a : OperandSource) (d : Dest) (j : Jump) (s : State) : Host.Outcome State Fault Refusal :=
  .next (cInstr Config.jumpTargetA a .unused d j s)

/-- Unused function code 0b100011 (R159): r = 0. -/
def execUnused100011 (a : OperandSource) (d : Dest) (j : Jump) (s : State) : Host.Outcome State Fault Refusal :=
  .next (cInstr Config.jumpTargetA a .unused d j s)

/-- Unused function code 0b100100 (R159): r = 0. -/
def execUnused100100 (a : OperandSource) (d : Dest) (j : Jump) (s : State) : Host.Outcome State Fault Refusal :=
  .next (cInstr Config.jumpTargetA a .unused d j s)

/-- Unused function code 0b100101 (R159): r = 0. -/
def execUnused100101 (a : OperandSource) (d : Dest) (j : Jump) (s : State) : Host.Outcome State Fault Refusal :=
  .next (cInstr Config.jumpTargetA a .unused d j s)

/-- Unused function code 0b100110 (R159): r = 0. -/
def execUnused100110 (a : OperandSource) (d : Dest) (j : Jump) (s : State) : Host.Outcome State Fault Refusal :=
  .next (cInstr Config.jumpTargetA a .unused d j s)

/-- Unused function code 0b100111 (R159): r = 0. -/
def execUnused100111 (a : OperandSource) (d : Dest) (j : Jump) (s : State) : Host.Outcome State Fault Refusal :=
  .next (cInstr Config.jumpTargetA a .unused d j s)

/-- Unused function code 0b101000 (R159): r = 0. -/
def execUnused101000 (a : OperandSource) (d : Dest) (j : Jump) (s : State) : Host.Outcome State Fault Refusal :=
  .next (cInstr Config.jumpTargetA a .unused d j s)

/-- Unused function code 0b101001 (R159): r = 0. -/
def execUnused101001 (a : OperandSource) (d : Dest) (j : Jump) (s : State) : Host.Outcome State Fault Refusal :=
  .next (cInstr Config.jumpTargetA a .unused d j s)

/-- Unused function code 0b101011 (R159): r = 0. -/
def execUnused101011 (a : OperandSource) (d : Dest) (j : Jump) (s : State) : Host.Outcome State Fault Refusal :=
  .next (cInstr Config.jumpTargetA a .unused d j s)

/-- Unused function code 0b101100 (R159): r = 0. -/
def execUnused101100 (a : OperandSource) (d : Dest) (j : Jump) (s : State) : Host.Outcome State Fault Refusal :=
  .next (cInstr Config.jumpTargetA a .unused d j s)

/-- Unused function code 0b101101 (R159): r = 0. -/
def execUnused101101 (a : OperandSource) (d : Dest) (j : Jump) (s : State) : Host.Outcome State Fault Refusal :=
  .next (cInstr Config.jumpTargetA a .unused d j s)

/-- Unused function code 0b101110 (R159): r = 0. -/
def execUnused101110 (a : OperandSource) (d : Dest) (j : Jump) (s : State) : Host.Outcome State Fault Refusal :=
  .next (cInstr Config.jumpTargetA a .unused d j s)

/-- Unused function code 0b101111 (R159): r = 0. -/
def execUnused101111 (a : OperandSource) (d : Dest) (j : Jump) (s : State) : Host.Outcome State Fault Refusal :=
  .next (cInstr Config.jumpTargetA a .unused d j s)

/-- Unused function code 0b110100 (R159): r = 0. -/
def execUnused110100 (a : OperandSource) (d : Dest) (j : Jump) (s : State) : Host.Outcome State Fault Refusal :=
  .next (cInstr Config.jumpTargetA a .unused d j s)

/-- Unused function code 0b110101 (R159): r = 0. -/
def execUnused110101 (a : OperandSource) (d : Dest) (j : Jump) (s : State) : Host.Outcome State Fault Refusal :=
  .next (cInstr Config.jumpTargetA a .unused d j s)

/-- Unused function code 0b110110 (R159): r = 0. -/
def execUnused110110 (a : OperandSource) (d : Dest) (j : Jump) (s : State) : Host.Outcome State Fault Refusal :=
  .next (cInstr Config.jumpTargetA a .unused d j s)

/-- Unused function code 0b111000 (R159): r = 0. -/
def execUnused111000 (a : OperandSource) (d : Dest) (j : Jump) (s : State) : Host.Outcome State Fault Refusal :=
  .next (cInstr Config.jumpTargetA a .unused d j s)

/-- Unused function code 0b111001 (R159): r = 0. -/
def execUnused111001 (a : OperandSource) (d : Dest) (j : Jump) (s : State) : Host.Outcome State Fault Refusal :=
  .next (cInstr Config.jumpTargetA a .unused d j s)

/-- Unused function code 0b111011 (R159): r = 0. -/
def execUnused111011 (a : OperandSource) (d : Dest) (j : Jump) (s : State) : Host.Outcome State Fault Refusal :=
  .next (cInstr Config.jumpTargetA a .unused d j s)

/-- Unused function code 0b111100 (R159): r = 0. -/
def execUnused111100 (a : OperandSource) (d : Dest) (j : Jump) (s : State) : Host.Outcome State Fault Refusal :=
  .next (cInstr Config.jumpTargetA a .unused d j s)

/-- Unused function code 0b111101 (R159): r = 0. -/
def execUnused111101 (a : OperandSource) (d : Dest) (j : Jump) (s : State) : Host.Outcome State Fault Refusal :=
  .next (cInstr Config.jumpTargetA a .unused d j s)

/-- Unused function code 0b111110 (R159): r = 0. -/
def execUnused111110 (a : OperandSource) (d : Dest) (j : Jump) (s : State) : Host.Outcome State Fault Refusal :=
  .next (cInstr Config.jumpTargetA a .unused d j s)

end Sys2Proof.Machine
end

