-- ==== Sys2Proof/Machine/Dispatch.lean ====
section
/-! DEFINITION. The dispatch from an instruction to its meaning: one arm per constructor of `Instr`. -/

namespace Sys2Proof.Machine

def exec (i : Instr) (s : State) : Host.Outcome State Fault Refusal :=
  match i with
  | .aInstr k => Sys2Proof.Machine.execAInstr k s
  | .zero d j => Sys2Proof.Machine.execZero d j s
  | .zeroA1 d j => Sys2Proof.Machine.execZeroA1 d j s
  | .one d j => Sys2Proof.Machine.execOne d j s
  | .oneA1 d j => Sys2Proof.Machine.execOneA1 d j s
  | .minusOne d j => Sys2Proof.Machine.execMinusOne d j s
  | .minusOneA1 d j => Sys2Proof.Machine.execMinusOneA1 d j s
  | .dReg d j => Sys2Proof.Machine.execDReg d j s
  | .dRegA1 d j => Sys2Proof.Machine.execDRegA1 d j s
  | .aReg d j => Sys2Proof.Machine.execAReg d j s
  | .mReg d j => Sys2Proof.Machine.execMReg d j s
  | .notD d j => Sys2Proof.Machine.execNotD d j s
  | .notDA1 d j => Sys2Proof.Machine.execNotDA1 d j s
  | .notA d j => Sys2Proof.Machine.execNotA d j s
  | .notM d j => Sys2Proof.Machine.execNotM d j s
  | .negD d j => Sys2Proof.Machine.execNegD d j s
  | .negDA1 d j => Sys2Proof.Machine.execNegDA1 d j s
  | .negA d j => Sys2Proof.Machine.execNegA d j s
  | .negM d j => Sys2Proof.Machine.execNegM d j s
  | .incD d j => Sys2Proof.Machine.execIncD d j s
  | .incDA1 d j => Sys2Proof.Machine.execIncDA1 d j s
  | .incA d j => Sys2Proof.Machine.execIncA d j s
  | .incM d j => Sys2Proof.Machine.execIncM d j s
  | .decD d j => Sys2Proof.Machine.execDecD d j s
  | .decDA1 d j => Sys2Proof.Machine.execDecDA1 d j s
  | .decA d j => Sys2Proof.Machine.execDecA d j s
  | .decM d j => Sys2Proof.Machine.execDecM d j s
  | .dPlusA d j => Sys2Proof.Machine.execDPlusA d j s
  | .dPlusM d j => Sys2Proof.Machine.execDPlusM d j s
  | .dMinusA d j => Sys2Proof.Machine.execDMinusA d j s
  | .dMinusM d j => Sys2Proof.Machine.execDMinusM d j s
  | .aMinusD d j => Sys2Proof.Machine.execAMinusD d j s
  | .mMinusD d j => Sys2Proof.Machine.execMMinusD d j s
  | .dAndA d j => Sys2Proof.Machine.execDAndA d j s
  | .dAndM d j => Sys2Proof.Machine.execDAndM d j s
  | .dOrA d j => Sys2Proof.Machine.execDOrA d j s
  | .dOrM d j => Sys2Proof.Machine.execDOrM d j s
  | .unused000001 a d j => Sys2Proof.Machine.execUnused000001 a d j s
  | .unused000011 a d j => Sys2Proof.Machine.execUnused000011 a d j s
  | .unused000100 a d j => Sys2Proof.Machine.execUnused000100 a d j s
  | .unused000101 a d j => Sys2Proof.Machine.execUnused000101 a d j s
  | .unused000110 a d j => Sys2Proof.Machine.execUnused000110 a d j s
  | .unused001000 a d j => Sys2Proof.Machine.execUnused001000 a d j s
  | .unused001001 a d j => Sys2Proof.Machine.execUnused001001 a d j s
  | .unused001010 a d j => Sys2Proof.Machine.execUnused001010 a d j s
  | .unused001011 a d j => Sys2Proof.Machine.execUnused001011 a d j s
  | .unused010000 a d j => Sys2Proof.Machine.execUnused010000 a d j s
  | .unused010001 a d j => Sys2Proof.Machine.execUnused010001 a d j s
  | .unused010010 a d j => Sys2Proof.Machine.execUnused010010 a d j s
  | .unused010100 a d j => Sys2Proof.Machine.execUnused010100 a d j s
  | .unused010110 a d j => Sys2Proof.Machine.execUnused010110 a d j s
  | .unused010111 a d j => Sys2Proof.Machine.execUnused010111 a d j s
  | .unused011000 a d j => Sys2Proof.Machine.execUnused011000 a d j s
  | .unused011001 a d j => Sys2Proof.Machine.execUnused011001 a d j s
  | .unused011010 a d j => Sys2Proof.Machine.execUnused011010 a d j s
  | .unused011011 a d j => Sys2Proof.Machine.execUnused011011 a d j s
  | .unused011100 a d j => Sys2Proof.Machine.execUnused011100 a d j s
  | .unused011101 a d j => Sys2Proof.Machine.execUnused011101 a d j s
  | .unused011110 a d j => Sys2Proof.Machine.execUnused011110 a d j s
  | .unused100000 a d j => Sys2Proof.Machine.execUnused100000 a d j s
  | .unused100001 a d j => Sys2Proof.Machine.execUnused100001 a d j s
  | .unused100010 a d j => Sys2Proof.Machine.execUnused100010 a d j s
  | .unused100011 a d j => Sys2Proof.Machine.execUnused100011 a d j s
  | .unused100100 a d j => Sys2Proof.Machine.execUnused100100 a d j s
  | .unused100101 a d j => Sys2Proof.Machine.execUnused100101 a d j s
  | .unused100110 a d j => Sys2Proof.Machine.execUnused100110 a d j s
  | .unused100111 a d j => Sys2Proof.Machine.execUnused100111 a d j s
  | .unused101000 a d j => Sys2Proof.Machine.execUnused101000 a d j s
  | .unused101001 a d j => Sys2Proof.Machine.execUnused101001 a d j s
  | .unused101011 a d j => Sys2Proof.Machine.execUnused101011 a d j s
  | .unused101100 a d j => Sys2Proof.Machine.execUnused101100 a d j s
  | .unused101101 a d j => Sys2Proof.Machine.execUnused101101 a d j s
  | .unused101110 a d j => Sys2Proof.Machine.execUnused101110 a d j s
  | .unused101111 a d j => Sys2Proof.Machine.execUnused101111 a d j s
  | .unused110100 a d j => Sys2Proof.Machine.execUnused110100 a d j s
  | .unused110101 a d j => Sys2Proof.Machine.execUnused110101 a d j s
  | .unused110110 a d j => Sys2Proof.Machine.execUnused110110 a d j s
  | .unused111000 a d j => Sys2Proof.Machine.execUnused111000 a d j s
  | .unused111001 a d j => Sys2Proof.Machine.execUnused111001 a d j s
  | .unused111011 a d j => Sys2Proof.Machine.execUnused111011 a d j s
  | .unused111100 a d j => Sys2Proof.Machine.execUnused111100 a d j s
  | .unused111101 a d j => Sys2Proof.Machine.execUnused111101 a d j s
  | .unused111110 a d j => Sys2Proof.Machine.execUnused111110 a d j s

end Sys2Proof.Machine
end

