-- ==== Sys2Proof/Machine/Step.lean ====
section
/-! DEFINITION. One step of the core: fetch, count, decode, execute (R24, R35, R55, R56). -/

namespace Sys2Proof.Machine

/-- What a step does with what its fetch delivered. An instruction is executed on the state whose cc is already counted (R56);
a fault changes no state (R195). -/
def runFetched (f : Fetched) (s : State) : Host.Outcome State Fault Refusal :=
  match f with
  | .word w => exec (decodeWord w) s.countInstr
  | .outOfRange => .fault (.fetchOutOfRange s.pc)
  | .oddAddress => .refused (.oddFetchAddress s.pc)

/-- One call of the interface operation `step` (R34, R35). -/
def step (s : State) : Host.Outcome State Fault Refusal := runFetched (fetch s) s

/-- The state with a table row's word (its low `nbits` bits) in the ROM slot that `step` fetches next. It stands for a ROM load
from outside (log 9). An odd pc, which no run has, is rounded down to its slot. -/
def State.withFetchWord (s : State) (nbits w : Nat) : State :=
  let pc : PcWord := s.pc &&& 0x1FFFE#17
  (s.setPc pc).setRom (romWithWord s.rom pc.toNat (BitVec.ofNat 16 (w % 2 ^ nbits)))

end Sys2Proof.Machine
end

