-- ==== Sys2Proof/Machine/Loader.lean ====
section
/-! DEFINITION. The host-side contract by which a program text becomes the bytes given to `load_rom` (rules R75, R76). -/

namespace Sys2Proof.Machine

/-- Why a program text fails to load (R76). -/
inductive LoaderError
  /-- The text is shorter than expected, holds another character where a digit is required, or ends inside an instruction. -/
  | malformedProgram
deriving DecidableEq, Repr

/-- The bit an ASCII digit stands for: "0" is byte 0x30, "1" is byte 0x31 (R75). -/
def digitBit (b : Byte) : Option Bool :=
  if b = 0x30#8 then some false else if b = 0x31#8 then some true else none

/-- Reads the groups of 16 digits and 1 terminator. `k` digits of the present group are read and stand in `acc`, the most
significant first. -/
def parseGroups (k : Nat) (acc : Word) : List Byte → Except LoaderError (List Byte)
  | [] =>
    if k = 0 then .ok []
    else if k = 16 then .ok [hiByte acc, loByte acc]
    else .error .malformedProgram
  | b :: text =>
    if k = 16 then
      -- the terminator, whose value is not checked
      match parseGroups 0 0#16 text with
      | .ok bytes => .ok (hiByte acc :: loByte acc :: bytes)
      | .error e => .error e
    else if k = 0 ∧ b = 0#8 then .ok [] -- the end-of-program sentinel
    else
      match digitBit b with
      | some bit => parseGroups (k + 1) ((acc <<< 1) ||| (BitVec.ofBool bit).setWidth 16) text
      | none => .error .malformedProgram

/-- The loader: program text to ROM bytes (R75), or `MalformedProgram` (R76). -/
def parseProgram (text : List Byte) : Except LoaderError (List Byte) := parseGroups 0 0#16 text

end Sys2Proof.Machine
end

