-- ==== Sys2Proof/WellFormed.lean ====
section
/-! DEFINITION. What must be checked of a term before it stands for something of the hardware.

An `Instr` needs no check: every field is bounded by its type (a 15-bit immediate, one bit per destination, eight jump
conditions, two operand sources), and every term is one the hardware executes (R92). What can be ill-formed is a ROM image. -/

namespace Sys2Proof

/-- A byte sequence that a ROM of `cap` bytes can hold: whole instruction slots (R63 `RomOddLength`), and no more than the
capacity (R63 `RomTooLarge`). -/
def romImageOk (cap : Nat) (bytes : List Byte) : Bool :=
  bytes.length % 2 == 0 && decide (bytes.length ≤ cap)

/-- An image this machine's ROM can hold (R31: L is even and at most `ROM_MAX_BYTES`). -/
def RomImage.wf (bytes : List Byte) : Bool := romImageOk Config.romMaxBytes bytes

end Sys2Proof
end

