-- ==== Sys2Proof/Machine/Interface.lean ====
section
/-! DEFINITION. The block interface as the host uses it (rules R34 to R36, R63, R66, R67, R210, R214): operations applied one at a
time to a block, never during a step (R35). -/

namespace Sys2Proof.Machine

/-- The block as the host holds it: the core's state and the fault of the present run, which is kept once recorded (R195,
R211). -/
structure Block where
  /-- The six components of R20. -/
  state : State
  /-- The fault that ended the present run, if one did. -/
  fault : Option Fault
deriving DecidableEq, Repr

/-- Whether `load_rom` under a capacity accepts a byte sequence, and why not (R63). For a sequence with both defects R63 names
both rejections and orders neither (log 7). -/
def romLoadCheck (cap : Nat) (bytes : List Byte) : Option RomRejection :=
  match decide (cap < bytes.length), bytes.length % 2 == 1 with
  | false, false => none
  | true, false => some .romTooLarge
  | false, true => some .romOddLength
  | true, true => some (Config.rejectionWhenBoth bytes)

/-- `load_rom(bytes)` under a capacity: the whole ROM is replaced, or the load is rejected and nothing changes (R63). No
register, cc or RAM word is written. -/
def loadRomUnder (cap : Nat) (bytes : List Byte) (s : State) : Except RomRejection State :=
  match romLoadCheck cap bytes with
  | none => .ok (s.setRom bytes)
  | some e => .error e

/-- `load_rom(bytes)` (R63). -/
def loadRom (bytes : List Byte) (s : State) : Except RomRejection State := loadRomUnder Config.romMaxBytes bytes s

/-- The operations of the interface (R34); `disassemble` is out of scope (R5). `loadText` is the host's use of the loader
before `load_rom` (R75, R76, R214). -/
inductive HostOp
  | construct
  | step
  | reset
  | loadRom (bytes : List Byte)
  | loadText (text : List Byte)
  | ramRead (addr : Nat)
  | ramWrite (addr : Nat) (v : Word)
  | readA
  | readD
  | readPc
  | readCc
deriving DecidableEq, Repr

/-- What an operation answers (R34). -/
inductive HostReply
  /-- The operation has no output. -/
  | done
  /-- `step`: the outcome `Next`. -/
  | next
  /-- `step`: the outcome `Fault(reason)`. -/
  | faulted (f : Fault)
  /-- `step`: the model's refusal, at an odd pc only. -/
  | refused (r : Refusal)
  /-- `load_rom`: accepted. -/
  | accepted
  /-- `load_rom`: rejected. -/
  | rejected (e : RomRejection)
  /-- The loader: `MalformedProgram`; no load takes place. -/
  | malformed (e : LoaderError)
  /-- A 16-bit read-out. -/
  | word (v : Word)
  /-- The read-out of pc. -/
  | pcValue (v : PcWord)
  /-- The read-out of cc. -/
  | ccValue (v : CcWord)
deriving DecidableEq, Repr

/-- A constructed block (R33). -/
def Block.construct : Block := ⟨State.reset, none⟩

/-- `step` on a block: a recorded fault stays and no further step is taken (R195, R211). -/
def Block.step (b : Block) : HostReply × Block :=
  match b.fault with
  | some f => (.faulted f, b)
  | none =>
    match Sys2Proof.Machine.step b.state with
    | .next t => (.next, ⟨t, none⟩)
    | .fault f => (.faulted f, ⟨b.state, some f⟩)
    | .refused r => (.refused r, b)

/-- `reset` (R210): it starts a new run, so a recorded fault is gone (R211). -/
def Block.reset (b : Block) : Block := ⟨resetState b.state, none⟩

/-- `load_rom` on a block: a recorded fault stays until a reset (R195: "`load_rom` followed by `reset`"). -/
def Block.loadRom (bytes : List Byte) (b : Block) : HostReply × Block :=
  match Sys2Proof.Machine.loadRom bytes b.state with
  | .ok t => (.accepted, ⟨t, b.fault⟩)
  | .error e => (.rejected e, b)

/-- `ram_write` on a block (R66). -/
def Block.ramWrite (addr : Nat) (v : Word) (b : Block) : Block :=
  ⟨b.state.setRam (Memory.write b.state.ram addr v), b.fault⟩

/-- One operation of the interface (R34). -/
def Block.perform (op : HostOp) (b : Block) : HostReply × Block :=
  match op with
  | .construct => (.done, Block.construct)
  | .step => b.step
  | .reset => (.done, b.reset)
  | .loadRom bytes => b.loadRom bytes
  | .loadText text =>
    match parseProgram text with
    | .ok bytes => b.loadRom bytes
    | .error e => (.malformed e, b)
  | .ramRead addr => (.word (Memory.read b.state.ram addr), b)
  | .ramWrite addr v => (.done, b.ramWrite addr v)
  | .readA => (.word b.state.a, b)
  | .readD => (.word b.state.d, b)
  | .readPc => (.pcValue b.state.pc, b)
  | .readCc => (.ccValue b.state.cc, b)

/-- The block after a sequence of operations, in order (R35). -/
def Block.performAll : List HostOp → Block → Block
  | [], b => b
  | op :: ops, b => Block.performAll ops (b.perform op).2

/-- One batch (R67, R219): the host writes the keyboard register once, then calls `step` `n` times. -/
def Block.batch (key : Word) (n : Nat) (b : Block) : Block :=
  Block.performAll (.ramWrite Config.keyboardAddr key :: List.replicate n .step) b

/-- Pixel (row y, column x) of the screen as the host reads it, for y < 256 and x < 512: bit `x mod 16` of word
`16384 + 32*y + x div 16`, true = lit (R64). -/
def screenPixel (m : Memory) (y x : Nat) : Bool :=
  (Memory.read m (Config.screenBase + 32 * y + x / 16)).getLsbD (x % 16)

end Sys2Proof.Machine
end

