-- ==== Sys2Proof/Safety.lean ====
section
/-! DEFINITION. What claims call a good state, a good block and a safe run. -/

namespace Sys2Proof.Machine

/-- The invariant of a core whose ROM holds `cap` bytes: the RAM is in its canonical form, pc is even (R25), and the ROM is an
image `load_rom` accepts (R31, R63). -/
structure InvUnder (cap : Nat) (s : State) : Prop where
  ramWf : Memory.wf s.ram = true
  pcEven : s.pc[0] = false
  romWf : romImageOk cap s.rom = true

/-- The invariant at the capacity `ROM_MAX_BYTES` (R6). -/
abbrev Inv (s : State) : Prop := InvUnder Config.romMaxBytes s

/-- The next fetch lies inside the loaded ROM (R54, R57). -/
def FetchInRange (s : State) : Prop := s.pc.toNat + 1 < s.rom.length

/-- `n` steps from `s` all answer a next state. -/
def RunsFor (n : Nat) (s : State) : Prop := ∃ t, Sys2Proof.core.run n s = .next t

end Sys2Proof.Machine
end

