-- ==== Sys2Proof/Certificates/Slice0/Obligations.lean ====
section
/-! DEFINITION. The statements for the provers, and the vocabulary they are written in. The vocabulary follows the rules' text
with integer arithmetic, apart from the model's own bit-vector definitions, so that a slip in those makes a statement false. -/

namespace Sys2Proof.Claims

open Sys2Proof Sys2Proof.Machine

/-- `sint16(v)` as R8 writes it. -/
def sint16 (v : Word) : Int := if v.toNat < 32768 then (v.toNat : Int) else (v.toNat : Int) - 65536

/-- The condition of a jump code on `sint16(r)` (R89). -/
def JumpHolds (j : Jump) (r : Word) : Prop :=
  match j with
  | .never => False
  | .jgt => sint16 r > 0
  | .jeq => sint16 r = 0
  | .jge => sint16 r ≥ 0
  | .jlt => sint16 r < 0
  | .jne => sint16 r ≠ 0
  | .jle => sint16 r ≤ 0
  | .jmp => True

/-- The M operand: the RAM word addressed by A (R122). -/
def mOf (s : State) : Word := Memory.read s.ram s.a.toNat

/-- The value a taken jump doubles, under the open parameter `JUMP_TARGET_A` (R128): the A from before the instruction, or the A
the destination writes leave. -/
def targetOf (s t : State) : Word :=
  match Config.jumpTargetA with
  | .old => s.a
  | .new => t.a

/-- All that a C-instruction with destinations `d`, jump `j` and ALU result `r` does (R120, R124 to R129): `t` is the state
after, `s` the state before. Every component of R20 is said: the destinations, every word of the RAM, pc, cc and ROM. -/
structure CEffect (s t : State) (d : Dest) (j : Jump) (r : Word) : Prop where
  regA : t.a = if d.toA then r else s.a
  regD : t.d = if d.toD then r else s.d
  stored : d.toM = true → Memory.read t.ram s.a.toNat = r
  unstored : ∀ n, ¬ (d.toM = true ∧ n = s.a.toNat) → Memory.read t.ram n = Memory.read s.ram n
  taken : JumpHolds j r → t.pc.toNat = 2 * (targetOf s t).toNat
  fallThrough : ¬ JumpHolds j r → t.pc.toNat = (s.pc.toNat + 2) % 131072
  cc : t.cc = s.cc
  rom : t.rom = s.rom

/-- The instruction completes with the C-instruction effect of the ALU result `r`, given as a number. -/
def Computes (i : Instr) (s : State) (d : Dest) (j : Jump) (r : Nat) : Prop :=
  ∃ (t : State) (v : Word), exec i s = .next t ∧ v.toNat = r ∧ CEffect s t d j v

/-- The 46 instructions of the unused function codes with the same other fields (R90). -/
def unusedForms (a : OperandSource) (d : Dest) (j : Jump) : List Instr :=
  [.unused000001 a d j, .unused000011 a d j, .unused000100 a d j, .unused000101 a d j, .unused000110 a d j] ++
  [.unused001000 a d j, .unused001001 a d j, .unused001010 a d j, .unused001011 a d j, .unused010000 a d j] ++
  [.unused010001 a d j, .unused010010 a d j, .unused010100 a d j, .unused010110 a d j, .unused010111 a d j] ++
  [.unused011000 a d j, .unused011001 a d j, .unused011010 a d j, .unused011011 a d j, .unused011100 a d j] ++
  [.unused011101 a d j, .unused011110 a d j, .unused100000 a d j, .unused100001 a d j, .unused100010 a d j] ++
  [.unused100011 a d j, .unused100100 a d j, .unused100101 a d j, .unused100110 a d j, .unused100111 a d j] ++
  [.unused101000 a d j, .unused101001 a d j, .unused101011 a d j, .unused101100 a d j, .unused101101 a d j] ++
  [.unused101110 a d j, .unused101111 a d j, .unused110100 a d j, .unused110101 a d j, .unused110110 a d j] ++
  [.unused111000 a d j, .unused111001 a d j, .unused111011 a d j, .unused111100 a d j, .unused111101 a d j] ++
  [.unused111110 a d j]

/-- `ALU(c, D, X)` on numbers, indexed by the raw function code as R87's table gives it in decimal; 0 for an unused code. -/
def aluByCode (c dv xv : Nat) : Nat :=
  match c with
  | 42 => 0
  | 63 => 1
  | 58 => 65535
  | 12 => dv
  | 48 => xv
  | 13 => 65535 - dv
  | 49 => 65535 - xv
  | 15 => (65536 - dv) % 65536
  | 51 => (65536 - xv) % 65536
  | 31 => (dv + 1) % 65536
  | 55 => (xv + 1) % 65536
  | 14 => (dv + 65535) % 65536
  | 50 => (xv + 65535) % 65536
  | 2 => (dv + xv) % 65536
  | 19 => (dv + 65536 - xv) % 65536
  | 7 => (xv + 65536 - dv) % 65536
  | 0 => dv &&& xv
  | 21 => dv ||| xv
  | _ => 0

/-- The condition of a raw jump field `n` (its three bits j2, j1, j0) as R89 reads the bits: j2 accepts r < 0, j1 accepts r = 0,
j0 accepts r > 0. -/
def maskHolds (n : Nat) (r : Word) : Prop :=
  (n / 4 % 2 = 1 ∧ sint16 r < 0) ∨ (n / 2 % 2 = 1 ∧ sint16 r = 0) ∨ (n % 2 = 1 ∧ sint16 r > 0)

/-- R120's pseudocode on the raw bits of a C-instruction word (R83, R121), written with numbers only. -/
structure WordEffect (w : Word) (s t : State) (r : Word) : Prop where
  result : r.toNat = aluByCode (w.toNat / 64 % 64) s.d.toNat (if w.toNat / 4096 % 2 = 1 then (mOf s).toNat else s.a.toNat)
  regA : t.a = if w.toNat / 32 % 2 = 1 then r else s.a
  regD : t.d = if w.toNat / 16 % 2 = 1 then r else s.d
  ram : ∀ n, Memory.read t.ram n = if w.toNat / 8 % 2 = 1 ∧ n = s.a.toNat then r else Memory.read s.ram n
  taken : maskHolds (w.toNat % 8) r → t.pc.toNat = 2 * (targetOf s t).toNat
  fallThrough : ¬ maskHolds (w.toNat % 8) r → t.pc.toNat = (s.pc.toNat + 2) % 131072
  cc : t.cc = s.cc
  rom : t.rom = s.rom

/-- A state with another cycle counter. -/
def withCc (s : State) (c : CcWord) : State := { s with cc := c }

/-- Two outcomes that differ at most in the cc of the state they give. -/
def EndAlikeButCc (o o' : Host.Outcome State Fault Refusal) : Prop :=
  match o, o' with
  | .next t, .next t' => t' = withCc t t'.cc
  | .fault f, .fault f' => f' = f
  | .refused r, .refused r' => r' = r
  | _, _ => False

/-- A state with another RAM. -/
def withRam (s : State) (m : Memory) : State := { s with ram := m }

/-- The next step of `s` runs a C-instruction that stores to RAM word `n`. -/
def Stores (s : State) (n : Nat) : Prop :=
  ∃ w d, fetch s = .word w ∧ (decodeWord w).dest? = some d ∧ d.toM = true ∧ s.a.toNat = n

/-- The 16 ASCII digits of an instruction word, most significant first (R75): "0" is byte 0x30, "1" is byte 0x31. -/
def digits (w : Word) : List Byte :=
  [15, 14, 13, 12, 11, 10, 9, 8, 7, 6, 5, 4, 3, 2, 1, 0].map fun n => if w.toNat / 2 ^ n % 2 = 1 then 0x31#8 else 0x30#8

/-- A program text of whole groups, each a word's digits and a terminator byte of any value (R75). -/
def groupText : List (Word × Byte) → List Byte
  | [] => []
  | (w, terminator) :: gs => digits w ++ terminator :: groupText gs

/-- The ROM bytes of a sequence of words, the more significant byte of each first (R58, R75). -/
def groupBytes : List (Word × Byte) → List Byte
  | [] => []
  | (w, _) :: gs => BitVec.ofNat 8 (w.toNat / 256) :: BitVec.ofNat 8 (w.toNat % 256) :: groupBytes gs

/-- A byte that is one of the two digits. -/
def IsDigit (b : Byte) : Prop := b = 0x30#8 ∨ b = 0x31#8

/-- The program text is malformed, and giving it to the loader loads nothing into any block (R76). -/
def FailsToLoad (text : List Byte) : Prop :=
  parseProgram text = .error .malformedProgram ∧ ∀ b : Block, b.perform (.loadText text) = (.malformed .malformedProgram, b)

end Sys2Proof.Claims

section
open Sys2Proof Sys2Proof.Machine Sys2Proof.Claims

/-! ## Reset -/

/-- R33 (the spec's decision D20): a constructed block, `State.reset`, has every register, cc and every RAM word 0 and an empty
ROM. -/
def Obligations.ConstructedBlockIsZero : Prop :=
  State.reset.a = 0 ∧ State.reset.d = 0 ∧ State.reset.pc = 0 ∧ State.reset.cc = 0 ∧
    (∀ n, Memory.read State.reset.ram n = 0) ∧ State.reset.rom = []

/-- R210: `reset` sets A, D, pc, cc and every RAM word to 0, leaves the ROM content and L unchanged, and the next step fetches
slot 0 (the ROM's first two bytes). -/
def Obligations.ResetKeepsOnlyTheRom : Prop :=
  ∀ (b : Block) (t : State), (b.perform .reset).2.state = t →
    t.a = 0 ∧ t.d = 0 ∧ t.pc = 0 ∧ t.cc = 0 ∧ (∀ n, Memory.read t.ram n = 0) ∧ t.rom = b.state.rom ∧
    (∀ hi lo rest, b.state.rom = hi :: lo :: rest → fetch t = .word (wordOfBytes hi lo))

/-! ## Encoding -/

/-- Words written out from R82, R83, R87, R88 and R89 and the source's own examples (S1, S6) decode to the instructions they
stand for, one of every family. The layout is the spec's own choice (D1 to D4, log 1). -/
def Obligations.SampleWordsDecode : Prop :=
  decodeWord 0b0011000000111001#16 = .aInstr 12345#15 ∧ -- @12345 (S1)
  decodeWord 0b1110011111010001#16 = .incD ⟨false, true, false⟩ .jgt ∧ -- D=D+1;JGT (S6)
  decodeWord 0b1110101010000111#16 = .zero ⟨false, false, false⟩ .jmp ∧ -- 0;JMP
  decodeWord 0b1111110000100000#16 = .mReg ⟨true, false, false⟩ .never ∧ -- A=M
  decodeWord 0b1111110001001000#16 = .notM ⟨false, false, true⟩ .never ∧ -- M=!M
  decodeWord 0b1110110011010000#16 = .negA ⟨false, true, false⟩ .never ∧ -- D=-A
  decodeWord 0b1111000111001000#16 = .mMinusD ⟨false, false, true⟩ .never ∧ -- M=M-D
  decodeWord 0b1111010101001000#16 = .dOrM ⟨false, false, true⟩ .never ∧ -- M=D|M
  decodeWord 0b1110000001010010#16 = .unused000001 .regA ⟨false, true, false⟩ .jeq -- .word 0xE052

/-- R81 and R82: bit 15 alone classifies; with bit 15 clear the word is the A-instruction of its bits 14..0, with bit 15 set it
is a C-instruction, the kind that has a destination field. -/
def Obligations.HighBitClassifies : Prop :=
  ∀ w : Word,
    (w.toNat < 32768 → ∃ k : BitVec 15, k.toNat = w.toNat ∧ decodeWord w = .aInstr k) ∧
    (32768 ≤ w.toNat → ∃ d, (decodeWord w).dest? = some d)

/-- Every word lies in its own row of spec/opcode_table.json and in no other: the row of the instruction it decodes to has the
mask and match of every row the word satisfies. The table is the spec's, its code values general knowledge (D1 to D4, log 1). -/
def Obligations.DecoderFollowsOpcodeTable : Prop :=
  ∀ w : Word, w &&& (decodeWord w).rowMask = (decodeWord w).rowMatch ∧
    ∀ i : Instr, w &&& i.rowMask = i.rowMatch →
      i.rowMask = (decodeWord w).rowMask ∧ i.rowMatch = (decodeWord w).rowMatch

/-- Decoding an encoded instruction gives it back, for every instruction with every value of its fields, as a word and as the
first two bytes of any byte sequence. -/
def Obligations.DecodeAfterEncode : Prop :=
  ∀ (i : Instr), decodeWord (encode i) = i ∧
    ∀ rest : List Byte, decode (hiByte (encode i) :: loByte (encode i) :: rest) = .ok (i, rest)

/-- Encoding a decoded word gives the word back, but that bits 14..13 of a C-instruction word, which have no function, come
back set as the assembler sets them (R91, the spec's decision D5; log 2). -/
def Obligations.EncodeAfterDecode : Prop :=
  ∀ w : Word, (encode (decodeWord w)).toNat = if w.toNat < 32768 then w.toNat else 0xE000 + w.toNat % 0x2000

/-! ## The step -/

/-- R55: the step fetches the two ROM bytes at pc and pc + 1, the first the more significant, and runs the instruction they
decode to. Around it the step adds only that cc is one more before the instruction runs (R56). -/
def Obligations.StepRunsDecodedInstruction : Prop :=
  ∀ (s : State) (hi lo : Byte) (w : Word), s.pc.toNat % 2 = 0 → s.rom[s.pc.toNat]? = some hi →
    s.rom[s.pc.toNat + 1]? = some lo → w.toNat = 256 * hi.toNat + lo.toNat →
    step s = exec (decodeWord w) (withCc s (s.cc + 1))

/-- R57, R195 (parameter `FETCH_OOB`, the spec's decision D13): past the end of the loaded ROM the step executes `@0`, or ends in
the fetch fault. -/
def Obligations.FetchPastTheRom : Prop :=
  ∀ s : State, s.pc.toNat % 2 = 0 → s.rom.length ≤ s.pc.toNat →
    match Config.fetchOob with
    | .zero => ∃ t, step s = .next t ∧ t.a = 0 ∧ t.pc.toNat = (s.pc.toNat + 2) % 131072 ∧ t.cc = s.cc + 1 ∧
        t.d = s.d ∧ t.ram = s.ram ∧ t.rom = s.rom
    | .fault => step s = .fault (.fetchOutOfRange s.pc)

/-- The model's choice (log 6) for a state no run reaches: R59 says an odd-address fetch "cannot arise and has no defined
behaviour to model", and the step is refused there. -/
def Obligations.OddFetchIsRefused : Prop :=
  ∀ s : State, s.pc.toNat % 2 = 1 → step s = .refused (.oddFetchAddress s.pc)

/-- R10: a step has exactly two outcomes, a next state, or the fetch fault, possible only out of range under
`FETCH_OOB = FAULT`. It holds for every ROM capacity. -/
def Obligations.StepHasTwoOutcomes : Prop :=
  ∀ (cap : Nat) (s : State), InvUnder cap s →
    (∃ t, step s = .next t) ∨
    (Config.fetchOob = .fault ∧ s.rom.length ≤ s.pc.toNat ∧ step s = .fault (.fetchOutOfRange s.pc))

/-- A step inside the ROM always completes, whatever `FETCH_OOB` is: every one of the 65536 words has a meaning (R92). -/
def Obligations.StepInsideRomCompletes : Prop :=
  ∀ s : State, s.pc.toNat % 2 = 0 → FetchInRange s → ∃ t, step s = .next t ∧ t.cc = s.cc + 1 ∧ t.rom = s.rom

/-- R26, R56, R220: n steps add exactly n to cc, modulo 2^64 (the spec's decision D15). -/
def Obligations.CcCountsInstructions : Prop :=
  ∀ (n : Nat) (s t : State), Sys2Proof.core.run n s = .next t → t.cc.toNat = (s.cc.toNat + n) % 2 ^ 64

/-- R26: cc "has no effect on semantics". Two runs of any length that start from states differing in cc alone end alike: both at
states differing in cc alone, or both with the same stop. -/
def Obligations.CcHasNoEffect : Prop :=
  ∀ (n : Nat) (s : State) (c : CcWord), EndAlikeButCc (Sys2Proof.core.run n s) (Sys2Proof.core.run n (withCc s c))

/-- R73: no step writes ROM, no fetch depends on RAM, no interface operation but a load (and `construct`, which makes a new
block) changes ROM, and the next fetch after an accepted load reads the new ROM, whatever the capacity; an accepted load on a
block is that load under `ROM_MAX_BYTES`. -/
def Obligations.RomIsReadOnlyToPrograms : Prop :=
  (∀ s t : State, step s = .next t → t.rom = s.rom) ∧
  (∀ (s : State) (m : Memory), fetch (withRam s m) = fetch s) ∧
  (∀ (op : HostOp) (b : Block), op ≠ .construct → (∀ bytes, op ≠ .loadRom bytes) → (∀ text, op ≠ .loadText text) →
    (b.perform op).2.state.rom = b.state.rom) ∧
  (∀ (cap : Nat) (bytes : List Byte) (s t : State) (hi lo : Byte), loadRomUnder cap bytes s = .ok t →
    s.pc.toNat % 2 = 0 → bytes[s.pc.toNat]? = some hi → bytes[s.pc.toNat + 1]? = some lo →
    fetch t = .word (wordOfBytes hi lo)) ∧
  (∀ (b : Block) (bytes : List Byte), (b.perform (.loadRom bytes)).1 = .accepted →
    loadRomUnder Config.romMaxBytes bytes b.state = .ok (b.perform (.loadRom bytes)).2.state)

/-- Whole-machine rule (R24, R193): after a step pc is pc + 2 modulo 2^17, or twice an A: the old one or the one the step
leaves. -/
def Obligations.PcMovesOnOrJumpsToA : Prop :=
  ∀ s t : State, step s = .next t →
    t.pc.toNat = (s.pc.toNat + 2) % 131072 ∨ t.pc.toNat = 2 * s.a.toNat ∨ t.pc.toNat = 2 * t.a.toNat

/-- Whole-machine rule (R21, R22, R50, R124): what changed in a step was written by the fetched instruction: D by a C-instruction
with destination D, A by one with destination A or an A-instruction, a RAM word by one with destination M at the old A. -/
def Obligations.ChangesHaveTheirWriter : Prop :=
  ∀ s t : State, step s = .next t → ∃ w, fetch s = .word w ∧
    (t.d ≠ s.d → ∃ d, (decodeWord w).dest? = some d ∧ d.toD = true) ∧
    (t.a ≠ s.a → (∃ k, decodeWord w = .aInstr k) ∨ ∃ d, (decodeWord w).dest? = some d ∧ d.toA = true) ∧
    (∀ n, Memory.read t.ram n ≠ Memory.read s.ram n → Stores s n)

/-! ## The invariant -/

/-- The constructed block meets the invariant, whatever the ROM capacity. -/
def Obligations.ConstructedBlockMeetsInvariant : Prop := ∀ cap : Nat, InvUnder cap State.reset

/-- Every step keeps the invariant: the RAM in its canonical form, pc even (R25), the ROM an image of whole slots within the
capacity (R31), for every capacity. -/
def Obligations.StepKeepsInvariant : Prop :=
  ∀ (cap : Nat) (s t : State), InvUnder cap s → step s = .next t → InvUnder cap t

/-- Every sequence of interface operations keeps the invariant at the capacity `ROM_MAX_BYTES`, loads of any bytes, RAM writes at any address, steps and resets
among them. -/
def Obligations.InterfaceKeepsInvariant : Prop :=
  ∀ (ops : List HostOp) (b : Block), Inv b.state → Inv (Block.performAll ops b).state

/-- Two RAMs in canonical form that read the same at every address are the same data. -/
def Obligations.CanonicalRamsAreEqual : Prop :=
  ∀ m m' : Memory, Memory.wf m = true → Memory.wf m' = true → (∀ n, Memory.read m n = Memory.read m' n) → m = m'

/-! ## The A-instruction -/

/-- R111: `@k` sets A to exactly k and advances pc by 2; D, RAM, ROM and cc are unchanged, cc but for the step's count. The first
part is the meaning, for every k and state; the second is the step on any fetched word with bit 15 clear. -/
def Obligations.AInstructionLoadsImmediate : Prop :=
  (∀ (k : BitVec 15) (s : State), ∃ t, exec (.aInstr k) s = .next t ∧ t.a.toNat = k.toNat ∧
    t.pc.toNat = (s.pc.toNat + 2) % 131072 ∧ t.d = s.d ∧ t.ram = s.ram ∧ t.rom = s.rom ∧ t.cc = s.cc) ∧
  (∀ (s : State) (hi lo : Byte), s.pc.toNat % 2 = 0 → s.rom[s.pc.toNat]? = some hi →
    s.rom[s.pc.toNat + 1]? = some lo → hi.toNat < 128 →
    ∃ t, step s = .next t ∧ t.a.toNat = 256 * hi.toNat + lo.toNat ∧ t.pc.toNat = (s.pc.toNat + 2) % 131072 ∧
      t.d = s.d ∧ t.ram = s.ram ∧ t.rom = s.rom ∧ t.cc = s.cc + 1)

/-! ## The C-instructions: results, destinations, jump and frame, for both operand sources, every destination set, every jump -/

/-- Functions zero, one and minus-one (42_alu_functions.md section 2), both forms. -/
def Obligations.ConstantFunctionsCompute : Prop :=
  ∀ (d : Dest) (j : Jump) (s : State),
    Computes (.zero d j) s d j 0 ∧ Computes (.zeroA1 d j) s d j 0 ∧
    Computes (.one d j) s d j 1 ∧ Computes (.oneA1 d j) s d j 1 ∧
    Computes (.minusOne d j) s d j 65535 ∧ Computes (.minusOneA1 d j) s d j 65535

/-- Functions D and X (42_alu_functions.md section 2), both forms. -/
def Obligations.TransferFunctionsCompute : Prop :=
  ∀ (d : Dest) (j : Jump) (s : State),
    Computes (.dReg d j) s d j s.d.toNat ∧ Computes (.dRegA1 d j) s d j s.d.toNat ∧
    Computes (.aReg d j) s d j s.a.toNat ∧ Computes (.mReg d j) s d j (mOf s).toNat

/-- Functions not D and not X (42_alu_functions.md section 2), both forms: `0xFFFF - v`. -/
def Obligations.ComplementFunctionsCompute : Prop :=
  ∀ (d : Dest) (j : Jump) (s : State),
    Computes (.notD d j) s d j (65535 - s.d.toNat) ∧ Computes (.notDA1 d j) s d j (65535 - s.d.toNat) ∧
    Computes (.notA d j) s d j (65535 - s.a.toNat) ∧ Computes (.notM d j) s d j (65535 - (mOf s).toNat)

/-- Functions minus D and minus X (42_alu_functions.md section 2), both forms: `(0 - v) mod 2^16`. -/
def Obligations.NegationFunctionsCompute : Prop :=
  ∀ (d : Dest) (j : Jump) (s : State),
    Computes (.negD d j) s d j ((65536 - s.d.toNat) % 65536) ∧ Computes (.negDA1 d j) s d j ((65536 - s.d.toNat) % 65536) ∧
    Computes (.negA d j) s d j ((65536 - s.a.toNat) % 65536) ∧ Computes (.negM d j) s d j ((65536 - (mOf s).toNat) % 65536)

/-- Functions D+1, X+1, D-1 and X-1 (42_alu_functions.md section 2), both forms. -/
def Obligations.IncrementFunctionsCompute : Prop :=
  ∀ (d : Dest) (j : Jump) (s : State),
    Computes (.incD d j) s d j ((s.d.toNat + 1) % 65536) ∧ Computes (.incDA1 d j) s d j ((s.d.toNat + 1) % 65536) ∧
    Computes (.incA d j) s d j ((s.a.toNat + 1) % 65536) ∧ Computes (.incM d j) s d j (((mOf s).toNat + 1) % 65536) ∧
    Computes (.decD d j) s d j ((s.d.toNat + 65535) % 65536) ∧ Computes (.decDA1 d j) s d j ((s.d.toNat + 65535) % 65536) ∧
    Computes (.decA d j) s d j ((s.a.toNat + 65535) % 65536) ∧ Computes (.decM d j) s d j (((mOf s).toNat + 65535) % 65536)

/-- Functions D+X, D-X and X-D (42_alu_functions.md section 2), both forms. -/
def Obligations.SumFunctionsCompute : Prop :=
  ∀ (d : Dest) (j : Jump) (s : State),
    Computes (.dPlusA d j) s d j ((s.d.toNat + s.a.toNat) % 65536) ∧
    Computes (.dPlusM d j) s d j ((s.d.toNat + (mOf s).toNat) % 65536) ∧
    Computes (.dMinusA d j) s d j ((s.d.toNat + 65536 - s.a.toNat) % 65536) ∧
    Computes (.dMinusM d j) s d j ((s.d.toNat + 65536 - (mOf s).toNat) % 65536) ∧
    Computes (.aMinusD d j) s d j ((s.a.toNat + 65536 - s.d.toNat) % 65536) ∧
    Computes (.mMinusD d j) s d j (((mOf s).toNat + 65536 - s.d.toNat) % 65536)

/-- Functions D AND X and D OR X (42_alu_functions.md section 2), both forms. -/
def Obligations.LogicFunctionsCompute : Prop :=
  ∀ (d : Dest) (j : Jump) (s : State),
    Computes (.dAndA d j) s d j (s.d.toNat &&& s.a.toNat) ∧ Computes (.dAndM d j) s d j (s.d.toNat &&& (mOf s).toNat) ∧
    Computes (.dOrA d j) s d j (s.d.toNat ||| s.a.toNat) ∧ Computes (.dOrM d j) s d j (s.d.toNat ||| (mOf s).toNat)

/-- R90: an unused function code is not illegal: for each of the 46, r is 0 and every other field acts as for a defined code. -/
def Obligations.UnusedCodesComputeZero : Prop :=
  ∀ (a : OperandSource) (d : Dest) (j : Jump) (s : State), ∀ i ∈ unusedForms a d j, Computes i s d j 0

/-- The `a = 1` form of a function that does not use X does in every state what its `a = 0` form does (30_encoding.md
section 4). -/
def Obligations.FormsIgnoringXAgree : Prop :=
  ∀ (d : Dest) (j : Jump) (s : State),
    exec (.zeroA1 d j) s = exec (.zero d j) s ∧ exec (.oneA1 d j) s = exec (.one d j) s ∧
    exec (.minusOneA1 d j) s = exec (.minusOne d j) s ∧ exec (.dRegA1 d j) s = exec (.dReg d j) s ∧
    exec (.notDA1 d j) s = exec (.notD d j) s ∧ exec (.negDA1 d j) s = exec (.negD d j) s ∧
    exec (.incDA1 d j) s = exec (.incD d j) s ∧ exec (.decDA1 d j) s = exec (.decD d j) s

/-- R160: the arithmetic functions reduce modulo 2^16, and the same bit pattern is the signed result wrapped; complement, and
and or act on each bit. No instruction stops, whatever overflows. -/
def Obligations.ArithmeticWrapsInBothReadings : Prop :=
  (∀ d x : Word,
    ((alu .dPlusX d x).toNat = (d.toNat + x.toNat) % 65536 ∧
      sint16 (alu .dPlusX d x) = (sint16 d + sint16 x).bmod 65536) ∧
    ((alu .dMinusX d x).toNat = (d.toNat + 65536 - x.toNat) % 65536 ∧
      sint16 (alu .dMinusX d x) = (sint16 d - sint16 x).bmod 65536) ∧
    ((alu .xMinusD d x).toNat = (x.toNat + 65536 - d.toNat) % 65536 ∧
      sint16 (alu .xMinusD d x) = (sint16 x - sint16 d).bmod 65536) ∧
    ((alu .incD d x).toNat = (d.toNat + 1) % 65536 ∧ sint16 (alu .incD d x) = (sint16 d + 1).bmod 65536) ∧
    ((alu .incX d x).toNat = (x.toNat + 1) % 65536 ∧ sint16 (alu .incX d x) = (sint16 x + 1).bmod 65536) ∧
    ((alu .decD d x).toNat = (d.toNat + 65535) % 65536 ∧ sint16 (alu .decD d x) = (sint16 d - 1).bmod 65536) ∧
    ((alu .decX d x).toNat = (x.toNat + 65535) % 65536 ∧ sint16 (alu .decX d x) = (sint16 x - 1).bmod 65536) ∧
    ((alu .negD d x).toNat = (65536 - d.toNat) % 65536 ∧ sint16 (alu .negD d x) = (-sint16 d).bmod 65536) ∧
    ((alu .negX d x).toNat = (65536 - x.toNat) % 65536 ∧ sint16 (alu .negX d x) = (-sint16 x).bmod 65536) ∧
    (∀ (n : Nat) (h : n < 16), (alu .notD d x)[n] = !d[n] ∧ (alu .notX d x)[n] = !x[n] ∧
      (alu .dAndX d x)[n] = (d[n] && x[n]) ∧ (alu .dOrX d x)[n] = (d[n] || x[n]))) ∧
  (∀ (i : Instr) (s : State), ∃ t, exec i s = .next t)

/-- Every jump condition at every result, by the ranges of r that 43_jump_conditions.md section 2 gives, on the instruction `D`
with no destination: taken, pc is A × 2; else pc + 2; nothing else changes. -/
def Obligations.JumpConditionRanges : Prop :=
  ∀ (j : Jump) (s : State), ∃ t, exec (.dReg ⟨false, false, false⟩ j) s = .next t ∧
    t.a = s.a ∧ t.d = s.d ∧ t.ram = s.ram ∧ t.rom = s.rom ∧ t.cc = s.cc ∧
    t.pc.toNat =
      if (j = .jgt ∧ 1 ≤ s.d.toNat ∧ s.d.toNat ≤ 0x7FFF) ∨ (j = .jeq ∧ s.d.toNat = 0) ∨ (j = .jge ∧ s.d.toNat ≤ 0x7FFF) ∨
        (j = .jlt ∧ 0x8000 ≤ s.d.toNat) ∨ (j = .jne ∧ s.d.toNat ≠ 0) ∨
        (j = .jle ∧ (s.d.toNat = 0 ∨ 0x8000 ≤ s.d.toNat)) ∨ j = .jmp
      then 2 * s.a.toNat else (s.pc.toNat + 2) % 131072

/-- R125, for every C-instruction: it completes, one value r reaches every destination it has, M at the A from before; and beside
pc it writes nothing but RAM word old A if M, A if A, D if D (41_c_instruction.md section 5; cc is counted by the step). -/
def Obligations.CInstructionWritesOnlyItsDestinations : Prop :=
  ∀ (i : Instr) (d : Dest) (s : State), i.dest? = some d → ∃ t r, exec i s = .next t ∧
    (d.toM = true → Memory.read t.ram s.a.toNat = r) ∧ (d.toA = true → t.a = r) ∧ (d.toD = true → t.d = r) ∧
    (d.toA = false → t.a = s.a) ∧ (d.toD = false → t.d = s.d) ∧
    (∀ n, ¬ (d.toM = true ∧ n = s.a.toNat) → Memory.read t.ram n = Memory.read s.ram n) ∧
    t.rom = s.rom ∧ t.cc = s.cc

/-- The empty destination (41_c_instruction.md section 3): A, D and RAM are unchanged, and the jump still reads the result that
the same word with destination D set (bit 4, the spec's own layout, log 1) would give D. -/
def Obligations.EmptyDestinationOnlyMovesPc : Prop :=
  ∀ (w : Word) (s : State), 32768 ≤ w.toNat → w.toNat / 8 % 8 = 0 →
    ∃ t u, exec (decodeWord w) s = .next t ∧ exec (decodeWord (w ||| 0x0010#16)) s = .next u ∧
      t.a = s.a ∧ t.d = s.d ∧ t.ram = s.ram ∧ t.rom = s.rom ∧ t.cc = s.cc ∧ t.pc = u.pc ∧
      (maskHolds (w.toNat % 8) u.d → t.pc.toNat = 2 * s.a.toNat) ∧
      (¬ maskHolds (w.toNat % 8) u.d → t.pc.toNat = (s.pc.toNat + 2) % 131072)

/-- The C-instruction as the raw bits of its word say (R83, R87, R88, R89, R120, R121 on numbers alone): for every word with bit 15
set and every state, executing what the decoder reads from it has the effect of R120's pseudocode on those bits. The layout and
the code values are the spec's own choice (D1 to D4, log 1). -/
def Obligations.DecodedWordFollowsPseudocode : Prop :=
  ∀ (w : Word) (s : State), 32768 ≤ w.toNat → ∃ t r, exec (decodeWord w) s = .next t ∧ WordEffect w s t r

/-- A word with operand-source bit 0 (bit 12, the spec's own layout, log 1) reads no RAM (20_memory.md section 1): on a state with
any other RAM it gives the same A, D, pc, cc and ROM, stores the same word at the old A if it has destination M (bit 3), and
leaves every other word of each RAM as it was. -/
def Obligations.OperandAReadsNoRam : Prop :=
  ∀ (w : Word) (s : State) (m : Memory), w.toNat / 4096 % 2 = 0 ∨ w.toNat < 32768 →
    ∃ t u, exec (decodeWord w) s = .next t ∧ exec (decodeWord w) (withRam s m) = .next u ∧
      u.a = t.a ∧ u.d = t.d ∧ u.pc = t.pc ∧ u.cc = t.cc ∧ u.rom = t.rom ∧
      (32768 ≤ w.toNat ∧ w.toNat / 8 % 2 = 1 → Memory.read u.ram s.a.toNat = Memory.read t.ram s.a.toNat) ∧
      (∀ n, ¬ ((32768 ≤ w.toNat ∧ w.toNat / 8 % 2 = 1) ∧ n = s.a.toNat) →
        Memory.read t.ram n = Memory.read s.ram n ∧ Memory.read u.ram n = Memory.read m n)

/-- No hazard between instructions (70_reset_and_hazards.md section 3): `@k` then `D=M` gives D the word at k, and `@k` then
`0;JMP` goes to slot k. -/
def Obligations.NextInstructionSeesNewA : Prop :=
  ∀ (k : BitVec 15) (s : State), ∃ t, exec (.aInstr k) s = .next t ∧
    (∃ u, exec (.mReg ⟨false, true, false⟩ .never) t = .next u ∧ u.d = Memory.read s.ram k.toNat) ∧
    (∃ u, exec (.zero ⟨false, false, false⟩ .jmp) t = .next u ∧ u.pc.toNat = 2 * k.toNat)

/-! ## The interface -/

/-- R36: the read-outs give the register's value and change nothing. -/
def Obligations.ReadOutsChangeNothing : Prop :=
  ∀ b : Block, b.perform .readA = (.word b.state.a, b) ∧ b.perform .readD = (.word b.state.d, b) ∧
    b.perform .readPc = (.pcValue b.state.pc, b) ∧ b.perform .readCc = (.ccValue b.state.cc, b)

/-- Host RAM access (20_memory.md section 6): below 65536 a write is what the next read there gives and no other word changes;
at or above 65536 the read gives 0 and the write is ignored. Nothing else changes. -/
def Obligations.HostRamAccess : Prop :=
  ∀ (b : Block) (addr : Nat) (v : Word), Memory.wf b.state.ram = true →
    (b.perform (.ramRead addr) = (.word (if addr < 65536 then Memory.read b.state.ram addr else 0), b)) ∧
    (∀ n, ((b.perform (.ramWrite addr v)).2.perform (.ramRead n)).1 =
      .word (if n = addr ∧ addr < 65536 then v else Memory.read b.state.ram n)) ∧
    (65536 ≤ addr → (b.perform (.ramWrite addr v)).2 = b) ∧
    (∃ m, (b.perform (.ramWrite addr v)).2 = ⟨withRam b.state m, b.fault⟩)

/-- ROM load (20_memory.md section 5; the spec's decision D11), for every capacity: accepted exactly for a whole number of slots
within the capacity, replacing ROM alone; else rejected by name. Which name a load with both defects gets is left open (log 7).
The block's load is that load under `ROM_MAX_BYTES` (any even number up to 131072, R6), and a rejected one changes nothing. -/
def Obligations.RomLoadAcceptsOrRejects : Prop :=
  (∀ (cap : Nat) (bytes : List Byte) (s : State),
    (bytes.length % 2 = 0 → bytes.length ≤ cap → loadRomUnder cap bytes s = .ok { s with rom := bytes }) ∧
    (bytes.length % 2 = 0 → cap < bytes.length → loadRomUnder cap bytes s = .error .romTooLarge) ∧
    (bytes.length % 2 = 1 → bytes.length ≤ cap → loadRomUnder cap bytes s = .error .romOddLength) ∧
    (bytes.length % 2 = 1 → cap < bytes.length → ∃ e, loadRomUnder cap bytes s = .error e)) ∧
  (Config.romMaxBytes % 2 = 0 ∧ Config.romMaxBytes ≤ 131072) ∧
  (∀ (b : Block) (bytes : List Byte), b.perform (.loadRom bytes) =
    match loadRomUnder Config.romMaxBytes bytes b.state with
    | .ok t => (.accepted, ⟨t, b.fault⟩)
    | .error e => (.rejected e, b))

/-- The fetch fault at the interface (60_exceptions.md section 1): a step that faults changes no state and its fault is recorded; a
recorded fault is answered to every further step, survives every operation but `reset` and `construct`, and those clear it. -/
def Obligations.FaultIsKeptUntilReset : Prop :=
  (∀ b : Block, b.fault = none →
    match step b.state with
    | .next t => b.perform .step = (.next, ⟨t, none⟩)
    | .fault f => b.perform .step = (.faulted f, ⟨b.state, some f⟩)
    | .refused r => b.perform .step = (.refused r, b)) ∧
  (∀ (b : Block) (f : Fault), b.fault = some f →
    b.perform .step = (.faulted f, b) ∧
    (∀ op, op ≠ .reset → op ≠ .construct → (b.perform op).2.fault = some f) ∧
    (b.perform .reset).2.fault = none ∧ (b.perform .construct).2.fault = none)

/-- The keyboard register inside a batch (20_memory.md section 6): until the program itself stores to word 24576, it reads as
the key the host wrote before the batch, at every step of it. -/
def Obligations.KeyHoldsThroughBatch : Prop :=
  ∀ (b : Block) (key : Word) (n : Nat) (t : State),
    Sys2Proof.core.run n (b.perform (.ramWrite 24576 key)).2.state = .next t →
    (∀ k u, k < n → Sys2Proof.core.run k (b.perform (.ramWrite 24576 key)).2.state = .next u → ¬ Stores u 24576) →
    Memory.read t.ram 24576 = key

/-- The screen bitmap (20_memory.md section 6; the word order is the spec's decision D25, log 2): every pixel's word lies in the
screen buffer, distinct pixels are distinct bits, every bit of the buffer is a pixel, and a store changes exactly the 16 pixels
of its word. -/
def Obligations.ScreenPixelsAreTheBufferBits : Prop :=
  (∀ (m : Memory) (y x a : Nat) (v : Word), y < 256 → x < 512 → a < 65536 →
    (16384 ≤ 16384 + 32 * y + x / 16 ∧ 16384 + 32 * y + x / 16 ≤ 24575) ∧
    screenPixel (Memory.write m a v) y x =
      if a = 16384 + 32 * y + x / 16 then v.getLsbD (x % 16) else screenPixel m y x) ∧
  (∀ y x y' x' : Nat, y < 256 → x < 512 → y' < 256 → x' < 512 →
    16384 + 32 * y + x / 16 = 16384 + 32 * y' + x' / 16 → x % 16 = x' % 16 → y = y' ∧ x = x') ∧
  (∀ (m : Memory) (a n : Nat), 16384 ≤ a → a ≤ 24575 → n < 16 →
    ∃ y x, y < 256 ∧ x < 512 ∧ screenPixel m y x = (Memory.read m a).getLsbD n)

/-! ## The loader -/

/-- The program text format (20_memory.md section 8; corner cases are the spec's decision D23, log 2): the loader gives back the
bytes of any sequence of words written as digit groups with any terminators, stopping at a group that begins with a zero byte
or at the end of the text, a last group without terminator included. -/
def Obligations.LoaderReadsWhatIsWritten : Prop :=
  ∀ gs : List (Word × Byte),
    parseProgram (groupText gs) = .ok (groupBytes gs) ∧
    (∀ tail, parseProgram (groupText gs ++ 0#8 :: tail) = .ok (groupBytes gs)) ∧
    (∀ w, parseProgram (groupText gs ++ digits w) = .ok (groupBytes gs ++ groupBytes [(w, 0)]))

/-- R76: after any whole groups, a group that ends before its 16th digit, or that holds another byte where a digit is required
(the sentinel zero at its head apart), is malformed, and no ROM load takes place. -/
def Obligations.MalformedTextIsNotLoaded : Prop :=
  ∀ (gs : List (Word × Byte)) (ds : List Byte), ds.length < 16 → (∀ b ∈ ds, IsDigit b) →
    (ds ≠ [] → FailsToLoad (groupText gs ++ ds)) ∧
    (∀ (b : Byte) (tail : List Byte), ¬ IsDigit b → (ds ≠ [] ∨ b ≠ 0) → FailsToLoad (groupText gs ++ ds ++ b :: tail))

end
end

