-- ==== Sys2Proof/Laws/Decode.lean ====
section
/-! SUPPORT. What the decoder's field extractions give on a word built from fields, and the byte order of an instruction word. -/

namespace Sys2Proof

/-- A word read back from its two bytes, the more significant first. -/
@[simp] theorem wordOfBytes_bytes (w : Word) : wordOfBytes (hiByte w) (loByte w) = w := by
  apply BitVec.eq_of_getLsbD_eq
  intro i hi
  simp only [wordOfBytes, hiByte, loByte, BitVec.getLsbD_append, BitVec.getLsbD_extractLsb']
  by_cases h : i < 8
  · simp [h]
  · simp [h, show i - 8 < 8 by omega, show 8 + (i - 8) = i by omega]

@[simp] theorem hiByte_wordOfBytes (hi lo : Byte) : hiByte (wordOfBytes hi lo) = hi := by
  apply BitVec.eq_of_getLsbD_eq
  intro i hlt
  simp only [wordOfBytes, hiByte, BitVec.getLsbD_extractLsb', BitVec.getLsbD_append]
  simp [hlt]

@[simp] theorem loByte_wordOfBytes (hi lo : Byte) : loByte (wordOfBytes hi lo) = lo := by
  apply BitVec.eq_of_getLsbD_eq
  intro i hlt
  simp only [wordOfBytes, loByte, BitVec.getLsbD_extractLsb', BitVec.getLsbD_append]
  simp [hlt]

@[simp] theorem OperandSource.ofBit_bit (src : OperandSource) : OperandSource.ofBit src.bit = src := by cases src <;> rfl

@[simp] theorem OperandSource.bit_ofBit (b : Bool) : (OperandSource.ofBit b).bit = b := by cases b <;> rfl

/-- The jump table inverts the jump codes. -/
@[simp] theorem jumpTable_code (j : Jump) : jumpTable j.code[2] j.code[1] j.code[0] = j := by cases j <;> rfl

@[simp] theorem code_jumpTable_2 (j2 j1 j0 : Bool) : (jumpTable j2 j1 j0).code[2] = j2 := by
  cases j2 <;> cases j1 <;> cases j0 <;> rfl

@[simp] theorem code_jumpTable_1 (j2 j1 j0 : Bool) : (jumpTable j2 j1 j0).code[1] = j1 := by
  cases j2 <;> cases j1 <;> cases j0 <;> rfl

@[simp] theorem code_jumpTable_0 (j2 j1 j0 : Bool) : (jumpTable j2 j1 j0).code[0] = j0 := by
  cases j2 <;> cases j1 <;> cases j0 <;> rfl

@[simp] theorem Dest.code_toA (d : Dest) : d.code[2] = d.toA := by
  obtain ⟨a, d, m⟩ := d; cases a <;> cases d <;> cases m <;> rfl

@[simp] theorem Dest.code_toD (d : Dest) : d.code[1] = d.toD := by
  obtain ⟨a, d, m⟩ := d; cases a <;> cases d <;> cases m <;> rfl

@[simp] theorem Dest.code_toM (d : Dest) : d.code[0] = d.toM := by
  obtain ⟨a, d, m⟩ := d; cases a <;> cases d <;> cases m <;> rfl

/-- Every bit of a C-instruction word, by the field it lies in (R83). -/
theorem cWordU_getElem (u : BitVec 2) (src : OperandSource) (c : BitVec 6) (d : Dest) (j : Jump) (i : Nat) (hi : i < 16) :
    (cWordU u src c d j)[i] =
      if i < 3 then j.code.getLsbD i else if i < 6 then d.code.getLsbD (i - 3) else if i < 12 then c.getLsbD (i - 6)
      else if i < 13 then src.bit else if i < 15 then u.getLsbD (i - 13) else true := by
  simp only [← BitVec.getLsbD_eq_getElem, cWordU, BitVec.getLsbD_or, BitVec.getLsbD_shiftLeft, BitVec.getLsbD_setWidth]
  interval_cases i <;> simp [BitVec.getLsbD_of_ge]

@[simp] theorem cWordU_bit15 (u src c d j) : (cWordU u src c d j)[15] = true := by simp [cWordU_getElem]

@[simp] theorem cWordU_src (u src c d j) : srcField (cWordU u src c d j) = src := by simp [srcField, cWordU_getElem]

@[simp] theorem cWordU_dest (u src c d j) : destField (cWordU u src c d j) = d := by simp [destField, cWordU_getElem]

@[simp] theorem cWordU_jump (u src c d j) : jumpField (cWordU u src c d j) = j := by simp [jumpField, cWordU_getElem]

/-- A C-instruction word decodes by its four fields, whatever its bits u (R83, R86, R91). -/
theorem decodeWord_cWordU (u : BitVec 2) (src : OperandSource) (code : BitVec 6) (d : Dest) (j : Jump) :
    decodeWord (cWordU u src code d j) =
      functionTable code[5] code[4] code[3] code[2] code[1] code[0] src d j := by
  simp [decodeWord, cWordU_getElem]

/-- A word with bit 15 set is a C-instruction word built from its own fields (R83). -/
theorem cWordU_fields (w : Word) (h : w[15] = true) :
    cWordU (w.extractLsb' 13 2) (srcField w) (w.extractLsb' 6 6) (destField w) (jumpField w) = w := by
  apply BitVec.eq_of_getElem_eq
  intro i hi
  rw [cWordU_getElem]
  simp only [srcField, OperandSource.bit_ofBit, jumpField, BitVec.getLsbD_extractLsb']
  interval_cases i <;> simp [h, destField]

end Sys2Proof
end

