-- ==== Sys2Proof/Laws/Memory.lean ====
section
/-! SUPPORT. The laws of the RAM's access primitives: what a read gives after a write, the canonical form that every write keeps,
and that canonical memories are equal as soon as they read the same. -/

namespace Sys2Proof.Machine

@[simp] theorem Memory.read_nil (n : Nat) : Memory.read [] n = 0#16 := rfl

theorem Memory.read_erase (m : Memory) (addr n : Nat) :
    Memory.read (Memory.erase m addr) n = if n = addr then 0#16 else Memory.read m n := by
  induction m with
  | nil => simp [Memory.erase]
  | cons c m ih =>
    obtain ⟨k, v⟩ := c
    by_cases hk : k = addr
    · by_cases hn : n = addr
      · simpa [Memory.erase, hk, hn] using ih
      · simp [Memory.erase, Memory.read, hk, ih, hn, Ne.symm hn]
    · by_cases hkn : k = n
      · simp [Memory.erase, Memory.read, show n ≠ addr from hkn ▸ hk, hkn]
      · simp [Memory.erase, Memory.read, hk, hkn, ih]

theorem Memory.erase_fresh (m : Memory) (addr : Nat) : ∀ c ∈ Memory.erase m addr, c.1 ≠ addr := by
  induction m with
  | nil => simp [Memory.erase]
  | cons c m ih =>
    obtain ⟨k, v⟩ := c
    simp only [Memory.erase]
    split
    · exact ih
    · intro c hc
      obtain rfl | hc := List.mem_cons.mp hc
      · assumption
      · exact ih c hc

theorem Memory.read_insert (m : Memory) (addr n : Nat) (w : Word) (h : ∀ c ∈ m, c.1 ≠ addr) :
    Memory.read (Memory.insert m addr w) n = if n = addr then w else Memory.read m n := by
  induction m with
  | nil =>
    by_cases hn : n = addr
    · simp [Memory.insert, Memory.read, hn]
    · simp [Memory.insert, Memory.read, hn, Ne.symm hn]
  | cons c m ih =>
    obtain ⟨k, v⟩ := c
    have hk : k ≠ addr := h (k, v) (by simp)
    have hm := ih fun c hc => h c (by simp [hc])
    simp only [Memory.insert]
    by_cases hn : n = addr
    · subst hn; split <;> simp_all [Memory.read]
    · split <;> simp [Memory.read, hm, hn, Ne.symm hn]

/-- What one write does to every read, inside the RAM and outside it (R52, R53, R66). It holds of every list, canonical or
not. -/
theorem Memory.read_write (m : Memory) (addr n : Nat) (w : Word) :
    Memory.read (Memory.write m addr w) n =
      if n = addr ∧ addr < Config.ramWords then w else Memory.read m n := by
  unfold Memory.write
  by_cases ha : addr < Config.ramWords
  · by_cases hw : w = 0#16
    · simp [ha, hw, Memory.read_erase]
    · simp only [ha, hw, ↓reduceIte, and_true]
      rw [Memory.read_insert _ _ _ _ (Memory.erase_fresh m addr), Memory.read_erase]
      split <;> rfl
  · simp [ha]

/-- A program's address is inside the RAM (R53). -/
theorem Memory.addr_lt (a : Word) : a.toNat < Config.ramWords := a.isLt

/-- A write through an address register (R53, R124). -/
@[simp] theorem Memory.read_write_word (m : Memory) (a : Word) (n : Nat) (w : Word) :
    Memory.read (Memory.write m a.toNat w) n = if n = a.toNat then w else Memory.read m n := by
  rw [Memory.read_write]; simp [Memory.addr_lt a]

theorem Memory.wfFrom_mono {lo hi : Nat} (h : lo ≤ hi) (m : Memory) (hm : Memory.wfFrom hi m = true) :
    Memory.wfFrom lo m = true := by
  cases m with
  | nil => rfl
  | cons c m =>
    obtain ⟨k, v⟩ := c
    simp only [Memory.wfFrom, Bool.and_eq_true, decide_eq_true_eq] at *
    exact ⟨⟨⟨h.trans hm.1.1.1, hm.1.1.2⟩, hm.1.2⟩, hm.2⟩

theorem Memory.erase_wfFrom (m : Memory) (lo addr : Nat) (hm : Memory.wfFrom lo m = true) :
    Memory.wfFrom lo (Memory.erase m addr) = true := by
  induction m generalizing lo with
  | nil => rfl
  | cons c m ih =>
    obtain ⟨k, v⟩ := c
    simp only [Memory.wfFrom, Bool.and_eq_true, decide_eq_true_eq] at hm
    by_cases hk : k = addr
    · simp only [Memory.erase, hk, ↓reduceIte]
      exact Memory.wfFrom_mono (by omega) _ (ih (k + 1) hm.2)
    · simp only [Memory.erase, hk, ↓reduceIte, Memory.wfFrom, Bool.and_eq_true, decide_eq_true_eq]
      exact ⟨hm.1, ih (k + 1) hm.2⟩

theorem Memory.insert_wfFrom (m : Memory) (lo addr : Nat) (w : Word) (hm : Memory.wfFrom lo m = true) (hlo : lo ≤ addr)
    (ha : addr < Config.ramWords) (hw : w ≠ 0#16) (hfresh : ∀ c ∈ m, c.1 ≠ addr) :
    Memory.wfFrom lo (Memory.insert m addr w) = true := by
  induction m generalizing lo with
  | nil => simp [Memory.insert, Memory.wfFrom, hlo, ha, hw]
  | cons c m ih =>
    obtain ⟨k, v⟩ := c
    simp only [Memory.wfFrom, Bool.and_eq_true, decide_eq_true_eq] at hm
    have hk : k ≠ addr := hfresh (k, v) (by simp)
    simp only [Memory.insert]
    split
    · simp only [Memory.wfFrom, Bool.and_eq_true, decide_eq_true_eq]
      refine ⟨⟨⟨hlo, ha⟩, by simpa using hw⟩, ⟨⟨by omega, hm.1.1.2⟩, hm.1.2⟩, hm.2⟩
    · simp only [Memory.wfFrom, Bool.and_eq_true, decide_eq_true_eq]
      exact ⟨hm.1, ih (k + 1) hm.2 (by omega) fun c hc => hfresh c (by simp [hc])⟩

/-- Every write keeps the canonical form. -/
theorem Memory.write_wf (m : Memory) (addr : Nat) (w : Word) (hm : Memory.wf m = true) :
    Memory.wf (Memory.write m addr w) = true := by
  unfold Memory.write
  split
  · split
    · exact Memory.erase_wfFrom m 0 addr hm
    · exact Memory.insert_wfFrom _ 0 addr w (Memory.erase_wfFrom m 0 addr hm) (by omega) ‹_› ‹_›
        (Memory.erase_fresh m addr)
  · exact hm

theorem Memory.read_lt (m : Memory) (lo n : Nat) (hm : Memory.wfFrom lo m = true) (hn : n < lo) :
    Memory.read m n = 0#16 := by
  induction m generalizing lo with
  | nil => rfl
  | cons c m ih =>
    obtain ⟨k, v⟩ := c
    simp only [Memory.wfFrom, Bool.and_eq_true, decide_eq_true_eq] at hm
    simp [Memory.read, show k ≠ n by omega, ih (k + 1) hm.2 (by omega)]

theorem Memory.read_past (m : Memory) (lo n : Nat) (hm : Memory.wfFrom lo m = true) (hn : Config.ramWords ≤ n) :
    Memory.read m n = 0#16 := by
  induction m generalizing lo with
  | nil => rfl
  | cons c m ih =>
    obtain ⟨k, v⟩ := c
    simp only [Memory.wfFrom, Bool.and_eq_true, decide_eq_true_eq] at hm
    simp [Memory.read, show k ≠ n by omega, ih (k + 1) hm.2]

end Sys2Proof.Machine
end

