-- ==== Sys2Proof/Laws/Shape.lean ====
section
/-! SUPPORT. What any instruction does, said once: every instruction is an immediate load or the common execution of a
C-instruction, and `exec` always answers a next state. Proofs cite `exec_eq` instead of unfolding the 83 meanings. -/

namespace Sys2Proof.Machine

/-- The two kinds of instruction (R2), with what the meaning of a C-instruction depends on. -/
inductive Shape
  | imm (k : BitVec 15)
  | comp (src : OperandSource) (f : AluFn) (d : Dest) (j : Jump)

/-- The shape of each instruction. -/
def shape : Instr → Shape
  | .aInstr k => .imm k
  | .zero d j => .comp .regA .zero d j
  | .zeroA1 d j => .comp .memM .zero d j
  | .one d j => .comp .regA .one d j
  | .oneA1 d j => .comp .memM .one d j
  | .minusOne d j => .comp .regA .minusOne d j
  | .minusOneA1 d j => .comp .memM .minusOne d j
  | .dReg d j => .comp .regA .d d j
  | .dRegA1 d j => .comp .memM .d d j
  | .aReg d j => .comp .regA .x d j
  | .mReg d j => .comp .memM .x d j
  | .notD d j => .comp .regA .notD d j
  | .notDA1 d j => .comp .memM .notD d j
  | .notA d j => .comp .regA .notX d j
  | .notM d j => .comp .memM .notX d j
  | .negD d j => .comp .regA .negD d j
  | .negDA1 d j => .comp .memM .negD d j
  | .negA d j => .comp .regA .negX d j
  | .negM d j => .comp .memM .negX d j
  | .incD d j => .comp .regA .incD d j
  | .incDA1 d j => .comp .memM .incD d j
  | .incA d j => .comp .regA .incX d j
  | .incM d j => .comp .memM .incX d j
  | .decD d j => .comp .regA .decD d j
  | .decDA1 d j => .comp .memM .decD d j
  | .decA d j => .comp .regA .decX d j
  | .decM d j => .comp .memM .decX d j
  | .dPlusA d j => .comp .regA .dPlusX d j
  | .dPlusM d j => .comp .memM .dPlusX d j
  | .dMinusA d j => .comp .regA .dMinusX d j
  | .dMinusM d j => .comp .memM .dMinusX d j
  | .aMinusD d j => .comp .regA .xMinusD d j
  | .mMinusD d j => .comp .memM .xMinusD d j
  | .dAndA d j => .comp .regA .dAndX d j
  | .dAndM d j => .comp .memM .dAndX d j
  | .dOrA d j => .comp .regA .dOrX d j
  | .dOrM d j => .comp .memM .dOrX d j
  | .unused000001 a d j => .comp a .unused d j
  | .unused000011 a d j => .comp a .unused d j
  | .unused000100 a d j => .comp a .unused d j
  | .unused000101 a d j => .comp a .unused d j
  | .unused000110 a d j => .comp a .unused d j
  | .unused001000 a d j => .comp a .unused d j
  | .unused001001 a d j => .comp a .unused d j
  | .unused001010 a d j => .comp a .unused d j
  | .unused001011 a d j => .comp a .unused d j
  | .unused010000 a d j => .comp a .unused d j
  | .unused010001 a d j => .comp a .unused d j
  | .unused010010 a d j => .comp a .unused d j
  | .unused010100 a d j => .comp a .unused d j
  | .unused010110 a d j => .comp a .unused d j
  | .unused010111 a d j => .comp a .unused d j
  | .unused011000 a d j => .comp a .unused d j
  | .unused011001 a d j => .comp a .unused d j
  | .unused011010 a d j => .comp a .unused d j
  | .unused011011 a d j => .comp a .unused d j
  | .unused011100 a d j => .comp a .unused d j
  | .unused011101 a d j => .comp a .unused d j
  | .unused011110 a d j => .comp a .unused d j
  | .unused100000 a d j => .comp a .unused d j
  | .unused100001 a d j => .comp a .unused d j
  | .unused100010 a d j => .comp a .unused d j
  | .unused100011 a d j => .comp a .unused d j
  | .unused100100 a d j => .comp a .unused d j
  | .unused100101 a d j => .comp a .unused d j
  | .unused100110 a d j => .comp a .unused d j
  | .unused100111 a d j => .comp a .unused d j
  | .unused101000 a d j => .comp a .unused d j
  | .unused101001 a d j => .comp a .unused d j
  | .unused101011 a d j => .comp a .unused d j
  | .unused101100 a d j => .comp a .unused d j
  | .unused101101 a d j => .comp a .unused d j
  | .unused101110 a d j => .comp a .unused d j
  | .unused101111 a d j => .comp a .unused d j
  | .unused110100 a d j => .comp a .unused d j
  | .unused110101 a d j => .comp a .unused d j
  | .unused110110 a d j => .comp a .unused d j
  | .unused111000 a d j => .comp a .unused d j
  | .unused111001 a d j => .comp a .unused d j
  | .unused111011 a d j => .comp a .unused d j
  | .unused111100 a d j => .comp a .unused d j
  | .unused111101 a d j => .comp a .unused d j
  | .unused111110 a d j => .comp a .unused d j

/-- The state after an instruction of a shape. -/
def Shape.run : Shape → State → State
  | .imm k, s => (s.setA (immediate k)).setPc (nextPc s.pc)
  | .comp src f d j, s => cInstr Config.jumpTargetA src f d j s

/-- Every instruction completes, with the state of its shape. -/
theorem exec_eq (i : Instr) (s : State) : exec i s = .next ((shape i).run s) := by cases i <;> rfl

/-- The destination field an instruction has is its shape's. -/
theorem dest?_eq (i : Instr) :
    i.dest? = match shape i with | .imm _ => none | .comp _ _ d _ => some d := by cases i <;> rfl

end Sys2Proof.Machine
end

