-- ==== Sys2Proof/Laws/State.lean ====
section
/-! SUPPORT. One lemma per field per update of the state, so that no proof unfolds a record update. -/

namespace Sys2Proof.Machine

@[simp] theorem State.setA_a (s : State) (v : Word) : (s.setA v).a = v := rfl
@[simp] theorem State.setA_d (s : State) (v : Word) : (s.setA v).d = s.d := rfl
@[simp] theorem State.setA_pc (s : State) (v : Word) : (s.setA v).pc = s.pc := rfl
@[simp] theorem State.setA_cc (s : State) (v : Word) : (s.setA v).cc = s.cc := rfl
@[simp] theorem State.setA_ram (s : State) (v : Word) : (s.setA v).ram = s.ram := rfl
@[simp] theorem State.setA_rom (s : State) (v : Word) : (s.setA v).rom = s.rom := rfl

@[simp] theorem State.setD_a (s : State) (v : Word) : (s.setD v).a = s.a := rfl
@[simp] theorem State.setD_d (s : State) (v : Word) : (s.setD v).d = v := rfl
@[simp] theorem State.setD_pc (s : State) (v : Word) : (s.setD v).pc = s.pc := rfl
@[simp] theorem State.setD_cc (s : State) (v : Word) : (s.setD v).cc = s.cc := rfl
@[simp] theorem State.setD_ram (s : State) (v : Word) : (s.setD v).ram = s.ram := rfl
@[simp] theorem State.setD_rom (s : State) (v : Word) : (s.setD v).rom = s.rom := rfl

@[simp] theorem State.setPc_a (s : State) (v : PcWord) : (s.setPc v).a = s.a := rfl
@[simp] theorem State.setPc_d (s : State) (v : PcWord) : (s.setPc v).d = s.d := rfl
@[simp] theorem State.setPc_pc (s : State) (v : PcWord) : (s.setPc v).pc = v := rfl
@[simp] theorem State.setPc_cc (s : State) (v : PcWord) : (s.setPc v).cc = s.cc := rfl
@[simp] theorem State.setPc_ram (s : State) (v : PcWord) : (s.setPc v).ram = s.ram := rfl
@[simp] theorem State.setPc_rom (s : State) (v : PcWord) : (s.setPc v).rom = s.rom := rfl

@[simp] theorem State.setCc_a (s : State) (v : CcWord) : (s.setCc v).a = s.a := rfl
@[simp] theorem State.setCc_d (s : State) (v : CcWord) : (s.setCc v).d = s.d := rfl
@[simp] theorem State.setCc_pc (s : State) (v : CcWord) : (s.setCc v).pc = s.pc := rfl
@[simp] theorem State.setCc_cc (s : State) (v : CcWord) : (s.setCc v).cc = v := rfl
@[simp] theorem State.setCc_ram (s : State) (v : CcWord) : (s.setCc v).ram = s.ram := rfl
@[simp] theorem State.setCc_rom (s : State) (v : CcWord) : (s.setCc v).rom = s.rom := rfl

@[simp] theorem State.setRam_a (s : State) (v : Memory) : (s.setRam v).a = s.a := rfl
@[simp] theorem State.setRam_d (s : State) (v : Memory) : (s.setRam v).d = s.d := rfl
@[simp] theorem State.setRam_pc (s : State) (v : Memory) : (s.setRam v).pc = s.pc := rfl
@[simp] theorem State.setRam_cc (s : State) (v : Memory) : (s.setRam v).cc = s.cc := rfl
@[simp] theorem State.setRam_ram (s : State) (v : Memory) : (s.setRam v).ram = v := rfl
@[simp] theorem State.setRam_rom (s : State) (v : Memory) : (s.setRam v).rom = s.rom := rfl

@[simp] theorem State.setRom_a (s : State) (v : List Byte) : (s.setRom v).a = s.a := rfl
@[simp] theorem State.setRom_d (s : State) (v : List Byte) : (s.setRom v).d = s.d := rfl
@[simp] theorem State.setRom_pc (s : State) (v : List Byte) : (s.setRom v).pc = s.pc := rfl
@[simp] theorem State.setRom_cc (s : State) (v : List Byte) : (s.setRom v).cc = s.cc := rfl
@[simp] theorem State.setRom_ram (s : State) (v : List Byte) : (s.setRom v).ram = s.ram := rfl
@[simp] theorem State.setRom_rom (s : State) (v : List Byte) : (s.setRom v).rom = v := rfl

@[simp] theorem State.countInstr_a (s : State) : s.countInstr.a = s.a := rfl
@[simp] theorem State.countInstr_d (s : State) : s.countInstr.d = s.d := rfl
@[simp] theorem State.countInstr_pc (s : State) : s.countInstr.pc = s.pc := rfl
@[simp] theorem State.countInstr_cc (s : State) : s.countInstr.cc = s.cc + 1#64 := rfl
@[simp] theorem State.countInstr_ram (s : State) : s.countInstr.ram = s.ram := rfl
@[simp] theorem State.countInstr_rom (s : State) : s.countInstr.rom = s.rom := rfl

@[simp] theorem State.storeM_a (s : State) (r : Word) : (s.storeM r).a = s.a := rfl
@[simp] theorem State.storeM_d (s : State) (r : Word) : (s.storeM r).d = s.d := rfl
@[simp] theorem State.storeM_pc (s : State) (r : Word) : (s.storeM r).pc = s.pc := rfl
@[simp] theorem State.storeM_cc (s : State) (r : Word) : (s.storeM r).cc = s.cc := rfl
@[simp] theorem State.storeM_ram (s : State) (r : Word) : (s.storeM r).ram = Memory.write s.ram s.a.toNat r := rfl
@[simp] theorem State.storeM_rom (s : State) (r : Word) : (s.storeM r).rom = s.rom := rfl

@[simp] theorem State.reset_a : State.reset.a = 0#16 := rfl
@[simp] theorem State.reset_d : State.reset.d = 0#16 := rfl
@[simp] theorem State.reset_pc : State.reset.pc = 0#17 := rfl
@[simp] theorem State.reset_cc : State.reset.cc = 0#64 := rfl
@[simp] theorem State.reset_ram : State.reset.ram = [] := rfl
@[simp] theorem State.reset_rom : State.reset.rom = [] := rfl

@[simp] theorem resetState_a (s : State) : (resetState s).a = 0#16 := rfl
@[simp] theorem resetState_d (s : State) : (resetState s).d = 0#16 := rfl
@[simp] theorem resetState_pc (s : State) : (resetState s).pc = 0#17 := rfl
@[simp] theorem resetState_cc (s : State) : (resetState s).cc = 0#64 := rfl
@[simp] theorem resetState_ram (s : State) : (resetState s).ram = [] := rfl
@[simp] theorem resetState_rom (s : State) : (resetState s).rom = s.rom := rfl

/-- Two states with the same six components are equal (R20). -/
theorem State.ext_fields (s t : State) (ha : s.a = t.a) (hd : s.d = t.d) (hpc : s.pc = t.pc) (hcc : s.cc = t.cc)
    (hram : s.ram = t.ram) (hrom : s.rom = t.rom) : s = t := by
  cases s; cases t; simp_all

end Sys2Proof.Machine
end

