-- ==== Sys2Proof/Laws/Exec.lean ====
section
/-! SUPPORT. What the shared operations do: the destination writes, the common execution of a C-instruction, the fetch and the
step, field by field. -/

namespace Sys2Proof.Machine

@[simp] theorem writeDests_a (d : Dest) (r : Word) (s : State) : (writeDests d r s).a = if d.toA then r else s.a := by
  obtain ⟨da, dd, dm⟩ := d; cases da <;> cases dd <;> cases dm <;> rfl

@[simp] theorem writeDests_d (d : Dest) (r : Word) (s : State) : (writeDests d r s).d = if d.toD then r else s.d := by
  obtain ⟨da, dd, dm⟩ := d; cases da <;> cases dd <;> cases dm <;> rfl

@[simp] theorem writeDests_pc (d : Dest) (r : Word) (s : State) : (writeDests d r s).pc = s.pc := by
  obtain ⟨da, dd, dm⟩ := d; cases da <;> cases dd <;> cases dm <;> rfl

@[simp] theorem writeDests_cc (d : Dest) (r : Word) (s : State) : (writeDests d r s).cc = s.cc := by
  obtain ⟨da, dd, dm⟩ := d; cases da <;> cases dd <;> cases dm <;> rfl

@[simp] theorem writeDests_rom (d : Dest) (r : Word) (s : State) : (writeDests d r s).rom = s.rom := by
  obtain ⟨da, dd, dm⟩ := d; cases da <;> cases dd <;> cases dm <;> rfl

/-- M is written at the A from before the instruction (R125). -/
@[simp] theorem writeDests_ram (d : Dest) (r : Word) (s : State) :
    (writeDests d r s).ram = if d.toM then Memory.write s.ram s.a.toNat r else s.ram := by
  obtain ⟨da, dd, dm⟩ := d; cases da <;> cases dd <;> cases dm <;> rfl

section
variable (p : JumpTargetA) (src : OperandSource) (f : AluFn) (d : Dest) (j : Jump) (s : State)

@[simp] theorem cInstr_a : (cInstr p src f d j s).a = if d.toA then alu f s.d (operandX src s) else s.a := by simp [cInstr]

@[simp] theorem cInstr_d : (cInstr p src f d j s).d = if d.toD then alu f s.d (operandX src s) else s.d := by simp [cInstr]

@[simp] theorem cInstr_cc : (cInstr p src f d j s).cc = s.cc := by simp [cInstr]

@[simp] theorem cInstr_rom : (cInstr p src f d j s).rom = s.rom := by simp [cInstr]

@[simp] theorem cInstr_ram : (cInstr p src f d j s).ram =
    if d.toM then Memory.write s.ram s.a.toNat (alu f s.d (operandX src s)) else s.ram := by simp [cInstr]

@[simp] theorem cInstr_pc : (cInstr p src f d j s).pc =
    if jumpCond j (alu f s.d (operandX src s)) then slotAddress (jumpTarget p d s.a (alu f s.d (operandX src s)))
    else nextPc s.pc := by simp [cInstr]

/-- Every read of the RAM after a C-instruction. -/
theorem cInstr_read (n : Nat) : Memory.read (cInstr p src f d j s).ram n =
    if d.toM = true ∧ n = s.a.toNat then alu f s.d (operandX src s) else Memory.read s.ram n := by
  cases h : d.toM <;> simp [h]

end

/-- The jump target doubled, as a number: never truncated (R127). -/
theorem slotAddress_toNat (t : Word) : (slotAddress t).toNat = 2 * t.toNat := by
  have := t.isLt
  simp only [slotAddress, BitVec.toNat_mul, BitVec.toNat_setWidth, BitVec.toNat_ofNat]
  omega

/-- The fall-through as a number (R24). -/
theorem nextPc_toNat (pc : PcWord) : (nextPc pc).toNat = (pc.toNat + 2) % 131072 := by simp [nextPc]

/-- Bit 0 of a byte offset is its parity. -/
theorem pc_bit0 (pc : PcWord) : pc[0] = (pc.toNat % 2 == 1) := by
  rw [← BitVec.getLsbD_eq_getElem, BitVec.getLsbD, Nat.testBit_zero]; simp [beq_eq_decide]

@[simp] theorem slotAddress_bit0 (t : Word) : (slotAddress t)[0] = false := by
  rw [pc_bit0, slotAddress_toNat]; simp

@[simp] theorem nextPc_bit0 (pc : PcWord) : (nextPc pc)[0] = pc[0] := by
  rw [pc_bit0, pc_bit0, nextPc_toNat]; congr 1; omega

/-- The immediate as a number (R84). -/
theorem immediate_toNat (k : BitVec 15) : (immediate k).toNat = k.toNat := by
  have := k.isLt
  simp [immediate]; omega

@[simp] theorem Shape.run_cc (sh : Shape) (s : State) : (sh.run s).cc = s.cc := by cases sh <;> simp [Shape.run]

@[simp] theorem Shape.run_rom (sh : Shape) (s : State) : (sh.run s).rom = s.rom := by cases sh <;> simp [Shape.run]

/-- No instruction makes an even pc odd (R25). -/
theorem Shape.run_pcEven (sh : Shape) (s : State) (h : s.pc[0] = false) : (sh.run s).pc[0] = false := by
  cases sh with
  | imm k => simp [Shape.run, h]
  | comp src f d j => simp only [Shape.run, cInstr_pc]; split <;> simp [h]

/-- Every instruction keeps the RAM's canonical form. -/
theorem Shape.run_ramWf (sh : Shape) (s : State) (h : Memory.wf s.ram = true) : Memory.wf (sh.run s).ram = true := by
  cases sh with
  | imm k => simpa [Shape.run] using h
  | comp src f d j => simp only [Shape.run, cInstr_ram]; split <;> simp [h, Memory.write_wf]

theorem romByte_eq_some (rom : List Byte) (n : Nat) (h : n < rom.length) : romByte rom n = some rom[n] := by
  simp [romByte, h]

theorem romByte_eq_none (rom : List Byte) (n : Nat) (h : rom.length ≤ n) : romByte rom n = none := by
  simp [romByte, h]

/-- A fetch inside the ROM delivers the two bytes, big-endian, whatever `FETCH_OOB` is (R55). -/
theorem fetch_of_bytes (s : State) (hi lo : Byte) (heven : s.pc[0] = false) (hhi : romByte s.rom s.pc.toNat = some hi)
    (hlo : romByte s.rom (s.pc.toNat + 1) = some lo) : fetch s = .word (wordOfBytes hi lo) := by
  simp [fetch, fetchUnder, heven, hhi, hlo]

/-- A fetch at or past L (R57). -/
theorem fetch_past (s : State) (heven : s.pc[0] = false) (h : s.rom.length ≤ s.pc.toNat) :
    fetch s = match Config.fetchOob with | .zero => .word 0#16 | .fault => .outOfRange := by
  simp only [fetch, fetchUnder, heven, romByte_eq_none s.rom _ h, romByte_eq_none s.rom (s.pc.toNat + 1) (by omega)]
  cases Config.fetchOob <;> rfl

/-- A step whose fetch delivers a word runs the decoded instruction on the counted state (R55, R56). -/
theorem step_of_fetch (s : State) (w : Word) (h : fetch s = .word w) : step s = exec (decodeWord w) s.countInstr := by
  simp [step, h, runFetched]

/-- What a step can do (one inversion for all of them): it fetched a word at an even pc and ran its shape, or it stopped at the
fetch. -/
theorem step_cases (s : State) :
    (∃ w, s.pc[0] = false ∧ fetch s = .word w ∧ step s = .next ((shape (decodeWord w)).run s.countInstr)) ∨
    (s.pc[0] = false ∧ fetch s = .outOfRange ∧ step s = .fault (.fetchOutOfRange s.pc)) ∨
    (s.pc[0] = true ∧ fetch s = .oddAddress ∧ step s = .refused (.oddFetchAddress s.pc)) := by
  cases hodd : s.pc[0] with
  | true =>
    have hf : fetch s = .oddAddress := by simp [fetch, fetchUnder, hodd]
    exact .inr (.inr ⟨rfl, hf, by simp [step, hf, runFetched]⟩)
  | false =>
    cases hf : fetch s with
    | word w => exact .inl ⟨w, rfl, rfl, by rw [step_of_fetch s w hf, exec_eq]⟩
    | outOfRange => exact .inr (.inl ⟨rfl, rfl, by simp [step, hf, runFetched]⟩)
    | oddAddress =>
      simp only [fetch, fetchUnder, hodd] at hf
      split at hf
      · cases hf
      · split at hf <;> cases hf

/-- A step that answers a next state ran the shape of the word it fetched. -/
theorem step_next (s t : State) (h : step s = .next t) :
    ∃ w, s.pc[0] = false ∧ fetch s = .word w ∧ t = (shape (decodeWord w)).run s.countInstr := by
  obtain ⟨w, he, hf, hs⟩ | ⟨_, _, hs⟩ | ⟨_, _, hs⟩ := step_cases s <;> rw [hs] at h
  · exact ⟨w, he, hf, by injection h with h; exact h.symm⟩
  · cases h
  · cases h

end Sys2Proof.Machine
end

