-- ==== Sys2Proof/Laws/PerInstr.lean ====
section
/-! SUPPORT. One lemma per constructor: the encoded word of an instruction lies in its own row of spec/opcode_table.json. -/

namespace Sys2Proof.Laws

/-- The encoded word, under the row's mask, is the row's match. -/
def TableRow.Statement (i : Instr) : Prop := encode i &&& i.rowMask = i.rowMatch

/-- The fixed bits of a C-instruction word with an explicit operand source (table masks 0x9FC0). -/
theorem cWord_and_9FC0 (src : OperandSource) (c : BitVec 6) (d : Dest) (j : Jump) :
    cWord src c d j &&& 0x9FC0#16 = cWord src c ⟨false, false, false⟩ .never &&& 0x9FC0#16 := by
  obtain ⟨da, dd, dm⟩ := d
  simp only [cWord, cWordU, BitVec.and_or_distrib_right]
  cases da <;> cases dd <;> cases dm <;> cases j <;> rfl

/-- The fixed bits of a C-instruction word with either operand source (table masks 0x8FC0). -/
theorem cWord_and_8FC0 (src : OperandSource) (c : BitVec 6) (d : Dest) (j : Jump) :
    cWord src c d j &&& 0x8FC0#16 = cWord .regA c ⟨false, false, false⟩ .never &&& 0x8FC0#16 := by
  obtain ⟨da, dd, dm⟩ := d
  simp only [cWord, cWordU, BitVec.and_or_distrib_right]
  cases src <;> cases da <;> cases dd <;> cases dm <;> cases j <;> rfl

theorem TableRow.aInstr (k : BitVec 15) : TableRow.Statement (.aInstr k) := by
  apply BitVec.eq_of_getLsbD_eq
  intro i hi
  simp only [encode, Instr.rowMask, Instr.rowMatch, BitVec.getLsbD_and, BitVec.getLsbD_setWidth]
  by_cases h : i = 15
  · subst h; simp
  · have : (0x8000#16).getLsbD i = false := by interval_cases i <;> first | rfl | exact absurd rfl h
    simp [this]

theorem TableRow.zero (d : Dest) (j : Jump) : TableRow.Statement (.zero d j) :=
  (cWord_and_9FC0 _ _ d j).trans rfl

theorem TableRow.zeroA1 (d : Dest) (j : Jump) : TableRow.Statement (.zeroA1 d j) :=
  (cWord_and_9FC0 _ _ d j).trans rfl

theorem TableRow.one (d : Dest) (j : Jump) : TableRow.Statement (.one d j) :=
  (cWord_and_9FC0 _ _ d j).trans rfl

theorem TableRow.oneA1 (d : Dest) (j : Jump) : TableRow.Statement (.oneA1 d j) :=
  (cWord_and_9FC0 _ _ d j).trans rfl

theorem TableRow.minusOne (d : Dest) (j : Jump) : TableRow.Statement (.minusOne d j) :=
  (cWord_and_9FC0 _ _ d j).trans rfl

theorem TableRow.minusOneA1 (d : Dest) (j : Jump) : TableRow.Statement (.minusOneA1 d j) :=
  (cWord_and_9FC0 _ _ d j).trans rfl

theorem TableRow.dReg (d : Dest) (j : Jump) : TableRow.Statement (.dReg d j) :=
  (cWord_and_9FC0 _ _ d j).trans rfl

theorem TableRow.dRegA1 (d : Dest) (j : Jump) : TableRow.Statement (.dRegA1 d j) :=
  (cWord_and_9FC0 _ _ d j).trans rfl

theorem TableRow.aReg (d : Dest) (j : Jump) : TableRow.Statement (.aReg d j) :=
  (cWord_and_9FC0 _ _ d j).trans rfl

theorem TableRow.mReg (d : Dest) (j : Jump) : TableRow.Statement (.mReg d j) :=
  (cWord_and_9FC0 _ _ d j).trans rfl

theorem TableRow.notD (d : Dest) (j : Jump) : TableRow.Statement (.notD d j) :=
  (cWord_and_9FC0 _ _ d j).trans rfl

theorem TableRow.notDA1 (d : Dest) (j : Jump) : TableRow.Statement (.notDA1 d j) :=
  (cWord_and_9FC0 _ _ d j).trans rfl

theorem TableRow.notA (d : Dest) (j : Jump) : TableRow.Statement (.notA d j) :=
  (cWord_and_9FC0 _ _ d j).trans rfl

theorem TableRow.notM (d : Dest) (j : Jump) : TableRow.Statement (.notM d j) :=
  (cWord_and_9FC0 _ _ d j).trans rfl

theorem TableRow.negD (d : Dest) (j : Jump) : TableRow.Statement (.negD d j) :=
  (cWord_and_9FC0 _ _ d j).trans rfl

theorem TableRow.negDA1 (d : Dest) (j : Jump) : TableRow.Statement (.negDA1 d j) :=
  (cWord_and_9FC0 _ _ d j).trans rfl

theorem TableRow.negA (d : Dest) (j : Jump) : TableRow.Statement (.negA d j) :=
  (cWord_and_9FC0 _ _ d j).trans rfl

theorem TableRow.negM (d : Dest) (j : Jump) : TableRow.Statement (.negM d j) :=
  (cWord_and_9FC0 _ _ d j).trans rfl

theorem TableRow.incD (d : Dest) (j : Jump) : TableRow.Statement (.incD d j) :=
  (cWord_and_9FC0 _ _ d j).trans rfl

theorem TableRow.incDA1 (d : Dest) (j : Jump) : TableRow.Statement (.incDA1 d j) :=
  (cWord_and_9FC0 _ _ d j).trans rfl

theorem TableRow.incA (d : Dest) (j : Jump) : TableRow.Statement (.incA d j) :=
  (cWord_and_9FC0 _ _ d j).trans rfl

theorem TableRow.incM (d : Dest) (j : Jump) : TableRow.Statement (.incM d j) :=
  (cWord_and_9FC0 _ _ d j).trans rfl

theorem TableRow.decD (d : Dest) (j : Jump) : TableRow.Statement (.decD d j) :=
  (cWord_and_9FC0 _ _ d j).trans rfl

theorem TableRow.decDA1 (d : Dest) (j : Jump) : TableRow.Statement (.decDA1 d j) :=
  (cWord_and_9FC0 _ _ d j).trans rfl

theorem TableRow.decA (d : Dest) (j : Jump) : TableRow.Statement (.decA d j) :=
  (cWord_and_9FC0 _ _ d j).trans rfl

theorem TableRow.decM (d : Dest) (j : Jump) : TableRow.Statement (.decM d j) :=
  (cWord_and_9FC0 _ _ d j).trans rfl

theorem TableRow.dPlusA (d : Dest) (j : Jump) : TableRow.Statement (.dPlusA d j) :=
  (cWord_and_9FC0 _ _ d j).trans rfl

theorem TableRow.dPlusM (d : Dest) (j : Jump) : TableRow.Statement (.dPlusM d j) :=
  (cWord_and_9FC0 _ _ d j).trans rfl

theorem TableRow.dMinusA (d : Dest) (j : Jump) : TableRow.Statement (.dMinusA d j) :=
  (cWord_and_9FC0 _ _ d j).trans rfl

theorem TableRow.dMinusM (d : Dest) (j : Jump) : TableRow.Statement (.dMinusM d j) :=
  (cWord_and_9FC0 _ _ d j).trans rfl

theorem TableRow.aMinusD (d : Dest) (j : Jump) : TableRow.Statement (.aMinusD d j) :=
  (cWord_and_9FC0 _ _ d j).trans rfl

theorem TableRow.mMinusD (d : Dest) (j : Jump) : TableRow.Statement (.mMinusD d j) :=
  (cWord_and_9FC0 _ _ d j).trans rfl

theorem TableRow.dAndA (d : Dest) (j : Jump) : TableRow.Statement (.dAndA d j) :=
  (cWord_and_9FC0 _ _ d j).trans rfl

theorem TableRow.dAndM (d : Dest) (j : Jump) : TableRow.Statement (.dAndM d j) :=
  (cWord_and_9FC0 _ _ d j).trans rfl

theorem TableRow.dOrA (d : Dest) (j : Jump) : TableRow.Statement (.dOrA d j) :=
  (cWord_and_9FC0 _ _ d j).trans rfl

theorem TableRow.dOrM (d : Dest) (j : Jump) : TableRow.Statement (.dOrM d j) :=
  (cWord_and_9FC0 _ _ d j).trans rfl

theorem TableRow.unused000001 (a : OperandSource) (d : Dest) (j : Jump) : TableRow.Statement (.unused000001 a d j) :=
  (cWord_and_8FC0 a _ d j).trans rfl

theorem TableRow.unused000011 (a : OperandSource) (d : Dest) (j : Jump) : TableRow.Statement (.unused000011 a d j) :=
  (cWord_and_8FC0 a _ d j).trans rfl

theorem TableRow.unused000100 (a : OperandSource) (d : Dest) (j : Jump) : TableRow.Statement (.unused000100 a d j) :=
  (cWord_and_8FC0 a _ d j).trans rfl

theorem TableRow.unused000101 (a : OperandSource) (d : Dest) (j : Jump) : TableRow.Statement (.unused000101 a d j) :=
  (cWord_and_8FC0 a _ d j).trans rfl

theorem TableRow.unused000110 (a : OperandSource) (d : Dest) (j : Jump) : TableRow.Statement (.unused000110 a d j) :=
  (cWord_and_8FC0 a _ d j).trans rfl

theorem TableRow.unused001000 (a : OperandSource) (d : Dest) (j : Jump) : TableRow.Statement (.unused001000 a d j) :=
  (cWord_and_8FC0 a _ d j).trans rfl

theorem TableRow.unused001001 (a : OperandSource) (d : Dest) (j : Jump) : TableRow.Statement (.unused001001 a d j) :=
  (cWord_and_8FC0 a _ d j).trans rfl

theorem TableRow.unused001010 (a : OperandSource) (d : Dest) (j : Jump) : TableRow.Statement (.unused001010 a d j) :=
  (cWord_and_8FC0 a _ d j).trans rfl

theorem TableRow.unused001011 (a : OperandSource) (d : Dest) (j : Jump) : TableRow.Statement (.unused001011 a d j) :=
  (cWord_and_8FC0 a _ d j).trans rfl

theorem TableRow.unused010000 (a : OperandSource) (d : Dest) (j : Jump) : TableRow.Statement (.unused010000 a d j) :=
  (cWord_and_8FC0 a _ d j).trans rfl

theorem TableRow.unused010001 (a : OperandSource) (d : Dest) (j : Jump) : TableRow.Statement (.unused010001 a d j) :=
  (cWord_and_8FC0 a _ d j).trans rfl

theorem TableRow.unused010010 (a : OperandSource) (d : Dest) (j : Jump) : TableRow.Statement (.unused010010 a d j) :=
  (cWord_and_8FC0 a _ d j).trans rfl

theorem TableRow.unused010100 (a : OperandSource) (d : Dest) (j : Jump) : TableRow.Statement (.unused010100 a d j) :=
  (cWord_and_8FC0 a _ d j).trans rfl

theorem TableRow.unused010110 (a : OperandSource) (d : Dest) (j : Jump) : TableRow.Statement (.unused010110 a d j) :=
  (cWord_and_8FC0 a _ d j).trans rfl

theorem TableRow.unused010111 (a : OperandSource) (d : Dest) (j : Jump) : TableRow.Statement (.unused010111 a d j) :=
  (cWord_and_8FC0 a _ d j).trans rfl

theorem TableRow.unused011000 (a : OperandSource) (d : Dest) (j : Jump) : TableRow.Statement (.unused011000 a d j) :=
  (cWord_and_8FC0 a _ d j).trans rfl

theorem TableRow.unused011001 (a : OperandSource) (d : Dest) (j : Jump) : TableRow.Statement (.unused011001 a d j) :=
  (cWord_and_8FC0 a _ d j).trans rfl

theorem TableRow.unused011010 (a : OperandSource) (d : Dest) (j : Jump) : TableRow.Statement (.unused011010 a d j) :=
  (cWord_and_8FC0 a _ d j).trans rfl

theorem TableRow.unused011011 (a : OperandSource) (d : Dest) (j : Jump) : TableRow.Statement (.unused011011 a d j) :=
  (cWord_and_8FC0 a _ d j).trans rfl

theorem TableRow.unused011100 (a : OperandSource) (d : Dest) (j : Jump) : TableRow.Statement (.unused011100 a d j) :=
  (cWord_and_8FC0 a _ d j).trans rfl

theorem TableRow.unused011101 (a : OperandSource) (d : Dest) (j : Jump) : TableRow.Statement (.unused011101 a d j) :=
  (cWord_and_8FC0 a _ d j).trans rfl

theorem TableRow.unused011110 (a : OperandSource) (d : Dest) (j : Jump) : TableRow.Statement (.unused011110 a d j) :=
  (cWord_and_8FC0 a _ d j).trans rfl

theorem TableRow.unused100000 (a : OperandSource) (d : Dest) (j : Jump) : TableRow.Statement (.unused100000 a d j) :=
  (cWord_and_8FC0 a _ d j).trans rfl

theorem TableRow.unused100001 (a : OperandSource) (d : Dest) (j : Jump) : TableRow.Statement (.unused100001 a d j) :=
  (cWord_and_8FC0 a _ d j).trans rfl

theorem TableRow.unused100010 (a : OperandSource) (d : Dest) (j : Jump) : TableRow.Statement (.unused100010 a d j) :=
  (cWord_and_8FC0 a _ d j).trans rfl

theorem TableRow.unused100011 (a : OperandSource) (d : Dest) (j : Jump) : TableRow.Statement (.unused100011 a d j) :=
  (cWord_and_8FC0 a _ d j).trans rfl

theorem TableRow.unused100100 (a : OperandSource) (d : Dest) (j : Jump) : TableRow.Statement (.unused100100 a d j) :=
  (cWord_and_8FC0 a _ d j).trans rfl

theorem TableRow.unused100101 (a : OperandSource) (d : Dest) (j : Jump) : TableRow.Statement (.unused100101 a d j) :=
  (cWord_and_8FC0 a _ d j).trans rfl

theorem TableRow.unused100110 (a : OperandSource) (d : Dest) (j : Jump) : TableRow.Statement (.unused100110 a d j) :=
  (cWord_and_8FC0 a _ d j).trans rfl

theorem TableRow.unused100111 (a : OperandSource) (d : Dest) (j : Jump) : TableRow.Statement (.unused100111 a d j) :=
  (cWord_and_8FC0 a _ d j).trans rfl

theorem TableRow.unused101000 (a : OperandSource) (d : Dest) (j : Jump) : TableRow.Statement (.unused101000 a d j) :=
  (cWord_and_8FC0 a _ d j).trans rfl

theorem TableRow.unused101001 (a : OperandSource) (d : Dest) (j : Jump) : TableRow.Statement (.unused101001 a d j) :=
  (cWord_and_8FC0 a _ d j).trans rfl

theorem TableRow.unused101011 (a : OperandSource) (d : Dest) (j : Jump) : TableRow.Statement (.unused101011 a d j) :=
  (cWord_and_8FC0 a _ d j).trans rfl

theorem TableRow.unused101100 (a : OperandSource) (d : Dest) (j : Jump) : TableRow.Statement (.unused101100 a d j) :=
  (cWord_and_8FC0 a _ d j).trans rfl

theorem TableRow.unused101101 (a : OperandSource) (d : Dest) (j : Jump) : TableRow.Statement (.unused101101 a d j) :=
  (cWord_and_8FC0 a _ d j).trans rfl

theorem TableRow.unused101110 (a : OperandSource) (d : Dest) (j : Jump) : TableRow.Statement (.unused101110 a d j) :=
  (cWord_and_8FC0 a _ d j).trans rfl

theorem TableRow.unused101111 (a : OperandSource) (d : Dest) (j : Jump) : TableRow.Statement (.unused101111 a d j) :=
  (cWord_and_8FC0 a _ d j).trans rfl

theorem TableRow.unused110100 (a : OperandSource) (d : Dest) (j : Jump) : TableRow.Statement (.unused110100 a d j) :=
  (cWord_and_8FC0 a _ d j).trans rfl

theorem TableRow.unused110101 (a : OperandSource) (d : Dest) (j : Jump) : TableRow.Statement (.unused110101 a d j) :=
  (cWord_and_8FC0 a _ d j).trans rfl

theorem TableRow.unused110110 (a : OperandSource) (d : Dest) (j : Jump) : TableRow.Statement (.unused110110 a d j) :=
  (cWord_and_8FC0 a _ d j).trans rfl

theorem TableRow.unused111000 (a : OperandSource) (d : Dest) (j : Jump) : TableRow.Statement (.unused111000 a d j) :=
  (cWord_and_8FC0 a _ d j).trans rfl

theorem TableRow.unused111001 (a : OperandSource) (d : Dest) (j : Jump) : TableRow.Statement (.unused111001 a d j) :=
  (cWord_and_8FC0 a _ d j).trans rfl

theorem TableRow.unused111011 (a : OperandSource) (d : Dest) (j : Jump) : TableRow.Statement (.unused111011 a d j) :=
  (cWord_and_8FC0 a _ d j).trans rfl

theorem TableRow.unused111100 (a : OperandSource) (d : Dest) (j : Jump) : TableRow.Statement (.unused111100 a d j) :=
  (cWord_and_8FC0 a _ d j).trans rfl

theorem TableRow.unused111101 (a : OperandSource) (d : Dest) (j : Jump) : TableRow.Statement (.unused111101 a d j) :=
  (cWord_and_8FC0 a _ d j).trans rfl

theorem TableRow.unused111110 (a : OperandSource) (d : Dest) (j : Jump) : TableRow.Statement (.unused111110 a d j) :=
  (cWord_and_8FC0 a _ d j).trans rfl

end Sys2Proof.Laws
end

