-- ==== Sys2Proof/Laws/Run.lean ====
section
/-! SUPPORT. Runs of several steps, the placed fetch word, and the ROM load check. -/

namespace Sys2Proof.Machine

@[simp] theorem core_run_zero (s : State) : Sys2Proof.core.run 0 s = .next s := rfl

/-- One more step at the front of a run. -/
theorem core_run_succ (n : Nat) (s : State) : Sys2Proof.core.run (n + 1) s =
    match step s with
    | .next t => Sys2Proof.core.run n t
    | .fault f => .fault f
    | .refused r => .refused r := by
  have h : Sys2Proof.core.step s = step s := rfl
  simp only [Host.Core.run]
  rw [h]
  cases step s <;> rfl

/-- The two bytes of a word placed in the ROM are where they were placed, and the ROM reaches past them. -/
theorem romWithWord_bytes (rom : List Byte) (addr : Nat) (w : Word) :
    romByte (romWithWord rom addr w) addr = some (hiByte w) ∧ romByte (romWithWord rom addr w) (addr + 1) = some (loByte w) := by
  have hlen : ((rom ++ List.replicate (addr - rom.length) 0#8).take addr).length = addr := by
    simp only [List.length_take, List.length_append, List.length_replicate]; omega
  constructor <;> simp [romByte, romWithWord, hlen]

/-- The placed word is the next one fetched and run, at every even pc. -/
theorem step_withFetchWord (s : State) (w : Word) (heven : s.pc[0] = false) :
    step (s.withFetchWord 16 w.toNat) =
      exec (decodeWord w) ((s.setRom (romWithWord s.rom s.pc.toNat w)).countInstr) := by
  have hw : BitVec.ofNat 16 (w.toNat % 2 ^ 16) = w := by
    apply BitVec.eq_of_toNat_eq
    have := w.isLt
    simp only [BitVec.toNat_ofNat]
    omega
  have hpc : s.pc &&& 0x1FFFE#17 = s.pc := by
    apply BitVec.eq_of_getElem_eq
    intro n hn
    interval_cases n <;> simp [heven]
  have hb := romWithWord_bytes s.rom s.pc.toNat w
  have hs : s.withFetchWord 16 w.toNat = s.setRom (romWithWord s.rom s.pc.toNat w) := by
    unfold State.withFetchWord
    rw [hw, hpc]
    rfl
  rw [hs, step_of_fetch _ _ (fetch_of_bytes _ _ _ (by simpa using heven) hb.1 hb.2), wordOfBytes_bytes]

/-- A ROM load passes its check exactly on an image the ROM can hold (R63). -/
theorem romLoadCheck_eq_none (cap : Nat) (bytes : List Byte) :
    romLoadCheck cap bytes = none ↔ romImageOk cap bytes = true := by
  have hpar : bytes.length % 2 = 0 ∨ bytes.length % 2 = 1 := by omega
  have hcap : cap < bytes.length ∨ bytes.length ≤ cap := by omega
  obtain h | h := hpar <;> obtain h' | h' := hcap <;>
    simp [romLoadCheck, romImageOk, h, h', Nat.not_lt.mpr, Nat.not_le.mpr]

/-- A load that answers a state was of an image the ROM can hold, and has replaced the ROM alone (R63). -/
theorem loadRomUnder_ok (cap : Nat) (bytes : List Byte) (s t : State) (h : loadRomUnder cap bytes s = .ok t) :
    romImageOk cap bytes = true ∧ t = s.setRom bytes := by
  unfold loadRomUnder at h
  split at h
  · next hc => exact ⟨(romLoadCheck_eq_none _ _).mp hc, by injection h with h; exact h.symm⟩
  · cases h

/-- An image the machine's ROM can hold is loaded (R63). -/
theorem loadRom_of_wf (bytes : List Byte) (s : State) (h : RomImage.wf bytes = true) :
    loadRom bytes s = .ok (s.setRom bytes) := by
  simp only [loadRom, loadRomUnder, (romLoadCheck_eq_none _ _).mpr h]

end Sys2Proof.Machine
end

