-- ==== Sys2Proof/Machine/Assembly.lean ====
section
/-! DEFINITION. The spec's spelling of an instruction word (rules R87, R88, R89, R94, R95): the disassembler is out of scope (R5),
its vocabulary is kept as this syntax. No rule of the machine depends on it (D21, D22). -/

namespace Sys2Proof.Machine

/-- The destination mnemonic, letters in the order A, M, D; empty for none (R88). -/
def destMnemonic (d : Dest) : String :=
  (if d.toA then "A" else "") ++ (if d.toM then "M" else "") ++ (if d.toD then "D" else "")

/-- The jump mnemonic; empty for never (R89). -/
def jumpMnemonic : Jump → String
  | .never => ""
  | .jgt => "JGT"
  | .jeq => "JEQ"
  | .jge => "JGE"
  | .jlt => "JLT"
  | .jne => "JNE"
  | .jle => "JLE"
  | .jmp => "JMP"

/-- The comp mnemonic of an operand source and function code (R87); none for an unused code and for the `a = 1` form of a
function that does not use X (R94). -/
def compMnemonic (src : OperandSource) (c : BitVec 6) : Option String :=
  match src, c.toNat with
  | .regA, 0b101010 => some "0"
  | .regA, 0b111111 => some "1"
  | .regA, 0b111010 => some "-1"
  | .regA, 0b001100 => some "D"
  | .regA, 0b110000 => some "A"
  | .memM, 0b110000 => some "M"
  | .regA, 0b001101 => some "!D"
  | .regA, 0b110001 => some "!A"
  | .memM, 0b110001 => some "!M"
  | .regA, 0b001111 => some "-D"
  | .regA, 0b110011 => some "-A"
  | .memM, 0b110011 => some "-M"
  | .regA, 0b011111 => some "D+1"
  | .regA, 0b110111 => some "A+1"
  | .memM, 0b110111 => some "M+1"
  | .regA, 0b001110 => some "D-1"
  | .regA, 0b110010 => some "A-1"
  | .memM, 0b110010 => some "M-1"
  | .regA, 0b000010 => some "D+A"
  | .memM, 0b000010 => some "D+M"
  | .regA, 0b010011 => some "D-A"
  | .memM, 0b010011 => some "D-M"
  | .regA, 0b000111 => some "A-D"
  | .memM, 0b000111 => some "M-D"
  | .regA, 0b000000 => some "D&A"
  | .memM, 0b000000 => some "D&M"
  | .regA, 0b010101 => some "D|A"
  | .memM, 0b010101 => some "D|M"
  | _, _ => none

/-- A line of the spec's assembly syntax (R94). -/
inductive AsmLine
  /-- `@k`. -/
  | at (k : Nat)
  /-- `dest=comp;jump`, `dest=` and `;jump` left out when the mnemonic is empty. -/
  | comp (dest comp jump : String)
  /-- `.word 0xNNNN`, for a word the syntax cannot spell otherwise. -/
  | word (w : Word)
deriving DecidableEq, Repr

/-- The spelling of an instruction word (R94): `.word` where u is not 0b11 or the comp has no mnemonic. -/
def spellWord (w : Word) : AsmLine :=
  match w[15] with
  | false => .at (imm15 w).toNat
  | true =>
    match w.extractLsb' 13 2 == 0b11#2, compMnemonic (srcField w) (w.extractLsb' 6 6) with
    | true, some comp => .comp (destMnemonic (destField w)) comp (jumpMnemonic (jumpField w))
    | true, none => .word w
    | false, _ => .word w

/-- A line as text. -/
def AsmLine.text : AsmLine → String
  | .at k => "@" ++ toString k
  | .comp ds cs js =>
    (if ds = "" then "" else ds ++ "=") ++ cs ++ (if js = "" then "" else ";" ++ js)
  | .word w => ".word 0x" ++ String.ofList ([12, 8, 4, 0].map fun i => ((w.toNat >>> i) % 16).digitChar.toUpper)

end Sys2Proof.Machine
end

