-- ==== Sys2Proof/Tests/Slice0.lean ====
section
/-! SUPPORT. Tests: expected results are taken from spec/ (the opcode table's encodings, 95_test_vectors.md), never from the
model. The second part holds a witness for the hypotheses of every statement that has some. -/

namespace Sys2Proof.Tests

open Sys2Proof Sys2Proof.Machine Sys2Proof.Claims

/-- A state at pc 0 with the given A, D and RAM. -/
def at0 (a d : Word) (ram : Memory) : State := { State.reset with a := a, d := d, ram := ram }

/-- The vectors' usual start: A = 5, D = 3, RAM[5] = 7. -/
def start : State := at0 5 3 [(5, 7)]

/-- A view of the next state, none where there is none. -/
def onNext {α : Type} (o : Host.Outcome State Fault Refusal) (view : State → α) : Option α :=
  match o with
  | .next t => some (view t)
  | .fault _ => none
  | .refused _ => none

/-- A view of the state after executing a word. -/
def after {α : Type} (w : Nat) (s : State) (view : State → α) : Option α :=
  onNext (exec (decodeWord (BitVec.ofNat 16 w)) s) view

/-! ## Well-formed ROM images (R63) -/

theorem test_rom_image_accepted : romImageOk 4 [0x00#8, 0x07#8, 0xEC#8, 0x10#8] = true := by decide

theorem test_rom_image_odd_refused : romImageOk 4 [0x00#8, 0x07#8, 0xEC#8] = false := by decide

theorem test_rom_image_too_large_refused : romImageOk 4 [0#8, 0#8, 0#8, 0#8, 0#8, 0#8] = false := by decide

theorem test_rom_image_odd_refused_whatever_capacity : RomImage.wf [0x00#8] = false := by rfl

/-! ## Decoding: every row of the opcode table, its encoding written out with fields filled in -/

theorem test_decode_immediate :
    decodeWord 0b0011000000111001#16 = .aInstr 0b011000000111001#15 ∧
    decodeWord 0b0111111111111111#16 = .aInstr 32767#15 := by decide

theorem test_decode_constants :
    decodeWord 0b1000101010100111#16 = .zero ⟨true, false, false⟩ .jmp ∧
    decodeWord 0b1011101010111100#16 = .zeroA1 ⟨true, true, true⟩ .jlt ∧
    decodeWord 0b1100111111010001#16 = .one ⟨false, true, false⟩ .jgt ∧
    decodeWord 0b1111111111101110#16 = .oneA1 ⟨true, false, true⟩ .jle ∧
    decodeWord 0b1000111010000011#16 = .minusOne ⟨false, false, false⟩ .jge ∧
    decodeWord 0b1011111010011000#16 = .minusOneA1 ⟨false, true, true⟩ .never := by decide

theorem test_decode_transfers :
    decodeWord 0b1100001100110101#16 = .dReg ⟨true, true, false⟩ .jne ∧
    decodeWord 0b1111001100001010#16 = .dRegA1 ⟨false, false, true⟩ .jeq ∧
    decodeWord 0b1000110000100111#16 = .aReg ⟨true, false, false⟩ .jmp ∧
    decodeWord 0b1011110000111100#16 = .mReg ⟨true, true, true⟩ .jlt := by decide

theorem test_decode_complements :
    decodeWord 0b1100001101010001#16 = .notD ⟨false, true, false⟩ .jgt ∧
    decodeWord 0b1111001101101110#16 = .notDA1 ⟨true, false, true⟩ .jle ∧
    decodeWord 0b1000110001000011#16 = .notA ⟨false, false, false⟩ .jge ∧
    decodeWord 0b1011110001011000#16 = .notM ⟨false, true, true⟩ .never := by decide

theorem test_decode_negations :
    decodeWord 0b1100001111110101#16 = .negD ⟨true, true, false⟩ .jne ∧
    decodeWord 0b1111001111001010#16 = .negDA1 ⟨false, false, true⟩ .jeq ∧
    decodeWord 0b1000110011100111#16 = .negA ⟨true, false, false⟩ .jmp ∧
    decodeWord 0b1011110011111100#16 = .negM ⟨true, true, true⟩ .jlt := by decide

theorem test_decode_increments :
    decodeWord 0b1100011111010001#16 = .incD ⟨false, true, false⟩ .jgt ∧
    decodeWord 0b1111011111101110#16 = .incDA1 ⟨true, false, true⟩ .jle ∧
    decodeWord 0b1000110111000011#16 = .incA ⟨false, false, false⟩ .jge ∧
    decodeWord 0b1011110111011000#16 = .incM ⟨false, true, true⟩ .never := by decide

theorem test_decode_decrements :
    decodeWord 0b1100001110110101#16 = .decD ⟨true, true, false⟩ .jne ∧
    decodeWord 0b1111001110001010#16 = .decDA1 ⟨false, false, true⟩ .jeq ∧
    decodeWord 0b1000110010100111#16 = .decA ⟨true, false, false⟩ .jmp ∧
    decodeWord 0b1011110010111100#16 = .decM ⟨true, true, true⟩ .jlt := by decide

theorem test_decode_sums :
    decodeWord 0b1100000010010001#16 = .dPlusA ⟨false, true, false⟩ .jgt ∧
    decodeWord 0b1111000010101110#16 = .dPlusM ⟨true, false, true⟩ .jle := by decide

theorem test_decode_differences :
    decodeWord 0b1000010011000011#16 = .dMinusA ⟨false, false, false⟩ .jge ∧
    decodeWord 0b1011010011011000#16 = .dMinusM ⟨false, true, true⟩ .never ∧
    decodeWord 0b1100000111110101#16 = .aMinusD ⟨true, true, false⟩ .jne ∧
    decodeWord 0b1111000111001010#16 = .mMinusD ⟨false, false, true⟩ .jeq := by decide

theorem test_decode_logic :
    decodeWord 0b1000000000100111#16 = .dAndA ⟨true, false, false⟩ .jmp ∧
    decodeWord 0b1011000000111100#16 = .dAndM ⟨true, true, true⟩ .jlt ∧
    decodeWord 0b1100010101010001#16 = .dOrA ⟨false, true, false⟩ .jgt ∧
    decodeWord 0b1111010101101110#16 = .dOrM ⟨true, false, true⟩ .jle := by decide

theorem test_decode_unused_00 :
    decodeWord 0b1001000001000011#16 = .unused000001 .memM ⟨false, false, false⟩ .jge ∧
    decodeWord 0b1010000011011000#16 = .unused000011 .regA ⟨false, true, true⟩ .never ∧
    decodeWord 0b1101000100110101#16 = .unused000100 .memM ⟨true, true, false⟩ .jne ∧
    decodeWord 0b1110000101001010#16 = .unused000101 .regA ⟨false, false, true⟩ .jeq ∧
    decodeWord 0b1001000110100111#16 = .unused000110 .memM ⟨true, false, false⟩ .jmp ∧
    decodeWord 0b1010001000111100#16 = .unused001000 .regA ⟨true, true, true⟩ .jlt ∧
    decodeWord 0b1101001001010001#16 = .unused001001 .memM ⟨false, true, false⟩ .jgt ∧
    decodeWord 0b1110001010101110#16 = .unused001010 .regA ⟨true, false, true⟩ .jle ∧
    decodeWord 0b1001001011000011#16 = .unused001011 .memM ⟨false, false, false⟩ .jge := by decide

theorem test_decode_unused_01 :
    decodeWord 0b1010010000011000#16 = .unused010000 .regA ⟨false, true, true⟩ .never ∧
    decodeWord 0b1101010001110101#16 = .unused010001 .memM ⟨true, true, false⟩ .jne ∧
    decodeWord 0b1110010010001010#16 = .unused010010 .regA ⟨false, false, true⟩ .jeq ∧
    decodeWord 0b1001010100100111#16 = .unused010100 .memM ⟨true, false, false⟩ .jmp ∧
    decodeWord 0b1010010110111100#16 = .unused010110 .regA ⟨true, true, true⟩ .jlt ∧
    decodeWord 0b1101010111010001#16 = .unused010111 .memM ⟨false, true, false⟩ .jgt ∧
    decodeWord 0b1110011000101110#16 = .unused011000 .regA ⟨true, false, true⟩ .jle ∧
    decodeWord 0b1001011001000011#16 = .unused011001 .memM ⟨false, false, false⟩ .jge ∧
    decodeWord 0b1010011010011000#16 = .unused011010 .regA ⟨false, true, true⟩ .never ∧
    decodeWord 0b1101011011110101#16 = .unused011011 .memM ⟨true, true, false⟩ .jne ∧
    decodeWord 0b1110011100001010#16 = .unused011100 .regA ⟨false, false, true⟩ .jeq ∧
    decodeWord 0b1001011101100111#16 = .unused011101 .memM ⟨true, false, false⟩ .jmp ∧
    decodeWord 0b1010011110111100#16 = .unused011110 .regA ⟨true, true, true⟩ .jlt := by decide

theorem test_decode_unused_10 :
    decodeWord 0b1101100000010001#16 = .unused100000 .memM ⟨false, true, false⟩ .jgt ∧
    decodeWord 0b1110100001101110#16 = .unused100001 .regA ⟨true, false, true⟩ .jle ∧
    decodeWord 0b1001100010000011#16 = .unused100010 .memM ⟨false, false, false⟩ .jge ∧
    decodeWord 0b1010100011011000#16 = .unused100011 .regA ⟨false, true, true⟩ .never ∧
    decodeWord 0b1101100100110101#16 = .unused100100 .memM ⟨true, true, false⟩ .jne ∧
    decodeWord 0b1110100101001010#16 = .unused100101 .regA ⟨false, false, true⟩ .jeq ∧
    decodeWord 0b1001100110100111#16 = .unused100110 .memM ⟨true, false, false⟩ .jmp ∧
    decodeWord 0b1010100111111100#16 = .unused100111 .regA ⟨true, true, true⟩ .jlt ∧
    decodeWord 0b1101101000010001#16 = .unused101000 .memM ⟨false, true, false⟩ .jgt ∧
    decodeWord 0b1110101001101110#16 = .unused101001 .regA ⟨true, false, true⟩ .jle ∧
    decodeWord 0b1001101011000011#16 = .unused101011 .memM ⟨false, false, false⟩ .jge ∧
    decodeWord 0b1010101100011000#16 = .unused101100 .regA ⟨false, true, true⟩ .never ∧
    decodeWord 0b1101101101110101#16 = .unused101101 .memM ⟨true, true, false⟩ .jne ∧
    decodeWord 0b1110101110001010#16 = .unused101110 .regA ⟨false, false, true⟩ .jeq ∧
    decodeWord 0b1001101111100111#16 = .unused101111 .memM ⟨true, false, false⟩ .jmp := by decide

theorem test_decode_unused_11 :
    decodeWord 0b1010110100111100#16 = .unused110100 .regA ⟨true, true, true⟩ .jlt ∧
    decodeWord 0b1101110101010001#16 = .unused110101 .memM ⟨false, true, false⟩ .jgt ∧
    decodeWord 0b1110110110101110#16 = .unused110110 .regA ⟨true, false, true⟩ .jle ∧
    decodeWord 0b1001111000000011#16 = .unused111000 .memM ⟨false, false, false⟩ .jge ∧
    decodeWord 0b1010111001011000#16 = .unused111001 .regA ⟨false, true, true⟩ .never ∧
    decodeWord 0b1101111011110101#16 = .unused111011 .memM ⟨true, true, false⟩ .jne ∧
    decodeWord 0b1110111100001010#16 = .unused111100 .regA ⟨false, false, true⟩ .jeq ∧
    decodeWord 0b1001111101100111#16 = .unused111101 .memM ⟨true, false, false⟩ .jmp ∧
    decodeWord 0b1010111110111100#16 = .unused111110 .regA ⟨true, true, true⟩ .jlt := by decide

theorem test_table_word_zero_row : decodeTableWord 16 0x8A80 = some (.zero ⟨false, false, false⟩ .never) := by decide

theorem test_decode_truncated : decode [0xEC#8] = .error .truncated := by rfl

/-! ## V-ALU: every function, both operand sources (95_test_vectors.md part 2) -/

theorem test_alu_constants :
    after 0xEA90 start (·.d) = some 0x0000#16 ∧
    after 0xFA90 start (·.d) = some 0x0000#16 ∧
    after 0xEFD0 start (·.d) = some 0x0001#16 ∧
    after 0xFFD0 start (·.d) = some 0x0001#16 ∧
    after 0xEE90 start (·.d) = some 0xFFFF#16 ∧
    after 0xFE90 start (·.d) = some 0xFFFF#16 := by decide

theorem test_alu_transfers :
    after 0xE310 start (·.d) = some 0x0003#16 ∧
    after 0xF310 start (·.d) = some 0x0003#16 ∧
    after 0xEC10 start (·.d) = some 0x0005#16 ∧
    after 0xFC10 start (·.d) = some 0x0007#16 := by decide

theorem test_alu_complements :
    after 0xE350 start (·.d) = some 0xFFFC#16 ∧
    after 0xF350 start (·.d) = some 0xFFFC#16 ∧
    after 0xEC50 start (·.d) = some 0xFFFA#16 ∧
    after 0xFC50 start (·.d) = some 0xFFF8#16 := by decide

theorem test_alu_negations :
    after 0xE3D0 start (·.d) = some 0xFFFD#16 ∧
    after 0xF3D0 start (·.d) = some 0xFFFD#16 ∧
    after 0xECD0 start (·.d) = some 0xFFFB#16 ∧
    after 0xFCD0 start (·.d) = some 0xFFF9#16 := by decide

theorem test_alu_increments :
    after 0xE7D0 start (·.d) = some 0x0004#16 ∧
    after 0xF7D0 start (·.d) = some 0x0004#16 ∧
    after 0xEDD0 start (·.d) = some 0x0006#16 ∧
    after 0xFDD0 start (·.d) = some 0x0008#16 := by decide

theorem test_alu_decrements :
    after 0xE390 start (·.d) = some 0x0002#16 ∧
    after 0xF390 start (·.d) = some 0x0002#16 ∧
    after 0xEC90 start (·.d) = some 0x0004#16 ∧
    after 0xFC90 start (·.d) = some 0x0006#16 := by decide

theorem test_alu_sums :
    after 0xE090 start (·.d) = some 0x0008#16 ∧
    after 0xF090 start (·.d) = some 0x000A#16 := by decide

theorem test_alu_differences :
    after 0xE4D0 start (·.d) = some 0xFFFE#16 ∧
    after 0xF4D0 start (·.d) = some 0xFFFC#16 ∧
    after 0xE1D0 start (·.d) = some 0x0002#16 ∧
    after 0xF1D0 start (·.d) = some 0x0004#16 := by decide

theorem test_alu_logic :
    after 0xE010 start (·.d) = some 0x0001#16 ∧
    after 0xF010 start (·.d) = some 0x0003#16 ∧
    after 0xE550 start (·.d) = some 0x0007#16 ∧
    after 0xF550 start (·.d) = some 0x0007#16 := by decide

/-! ## V-WRAP: arithmetic corner cases -/

theorem test_wrap_unary :
    after 0xE7D0 (at0 0x0000 0x7FFF []) (·.d) = some 0x8000#16 ∧
    after 0xE7D0 (at0 0x0000 0xFFFF []) (·.d) = some 0x0000#16 ∧
    after 0xE3D0 (at0 0x0000 0x8000 []) (·.d) = some 0x8000#16 ∧
    after 0xE3D0 (at0 0x0000 0x0000 []) (·.d) = some 0x0000#16 ∧
    after 0xE3D0 (at0 0x0000 0x0001 []) (·.d) = some 0xFFFF#16 ∧
    after 0xE350 (at0 0x0000 0x0000 []) (·.d) = some 0xFFFF#16 ∧
    after 0xE350 (at0 0x0000 0x7FFF []) (·.d) = some 0x8000#16 ∧
    after 0xE390 (at0 0x0000 0x0000 []) (·.d) = some 0xFFFF#16 ∧
    after 0xE390 (at0 0x0000 0x8000 []) (·.d) = some 0x7FFF#16 := by decide

theorem test_wrap_binary :
    after 0xE090 (at0 0x0001 0x7FFF []) (·.d) = some 0x8000#16 ∧
    after 0xE090 (at0 0x8000 0x8000 []) (·.d) = some 0x0000#16 ∧
    after 0xE090 (at0 0xFFFF 0xFFFF []) (·.d) = some 0xFFFE#16 ∧
    after 0xE4D0 (at0 0x0001 0x0000 []) (·.d) = some 0xFFFF#16 ∧
    after 0xE4D0 (at0 0x0001 0x8000 []) (·.d) = some 0x7FFF#16 ∧
    after 0xE1D0 (at0 0x0001 0x0000 []) (·.d) = some 0x0001#16 ∧
    after 0xF4D0 (at0 0x0064 0x8000 [(100, 0x0001)]) (·.d) = some 0x7FFF#16 ∧
    after 0xFDD0 (at0 0x0064 0x0000 [(100, 0xFFFF)]) (·.d) = some 0x0000#16 ∧
    after 0xFCD0 (at0 0x0064 0x0000 [(100, 0x8000)]) (·.d) = some 0x8000#16 ∧
    after 0xE010 (at0 0x7FFF 0x8000 []) (·.d) = some 0x0000#16 ∧
    after 0xE550 (at0 0x7FFF 0x8000 []) (·.d) = some 0xFFFF#16 ∧
    after 0xF010 (at0 0x0064 0x00FF [(100, 0x0F0F)]) (·.d) = some 0x000F#16 ∧
    after 0xF550 (at0 0x0064 0x00FF [(100, 0x0F0F)]) (·.d) = some 0x0FFF#16 := by decide

/-! ## V-DEST: every destination; the M write goes to the old A -/

/-- A, D, RAM[5] and RAM[8]. -/
def destView (t : State) : List Word := [t.a, t.d, Memory.read t.ram 5, Memory.read t.ram 8]

theorem test_destinations_without_a :
    after 0xFDC0 start destView = some [5, 3, 7, 0] ∧
    after 0xFDC8 start destView = some [5, 3, 8, 0] ∧
    after 0xFDD0 start destView = some [5, 8, 7, 0] ∧
    after 0xFDD8 start destView = some [5, 8, 8, 0] := by decide

theorem test_destinations_with_a :
    after 0xFDE0 start destView = some [8, 3, 7, 0] ∧
    after 0xFDE8 start destView = some [8, 3, 8, 0] ∧
    after 0xFDF0 start destView = some [8, 8, 7, 0] ∧
    after 0xFDF8 start destView = some [8, 8, 8, 0] := by decide

/-! ## V-JUMP: every condition at r = 0x8000, 0xFFFF, 0, 1, 0x7FFF with A = 9 -/

/-- Whether the word `D;J..` jumps, at the five results. -/
def jumpsAt (w : Nat) : List (Option PcWord) :=
  [0x8000, 0xFFFF, 0x0000, 0x0001, 0x7FFF].map fun r => after w (at0 9 r []) (·.pc)

theorem test_jumps :
    jumpsAt 0xE300 = [some 2, some 2, some 2, some 2, some 2] ∧
    jumpsAt 0xE301 = [some 2, some 2, some 2, some 18, some 18] ∧
    jumpsAt 0xE302 = [some 2, some 2, some 18, some 2, some 2] ∧
    jumpsAt 0xE303 = [some 2, some 2, some 18, some 18, some 18] ∧
    jumpsAt 0xE304 = [some 18, some 18, some 2, some 2, some 2] ∧
    jumpsAt 0xE305 = [some 18, some 18, some 2, some 18, some 18] ∧
    jumpsAt 0xE306 = [some 18, some 18, some 18, some 2, some 2] ∧
    jumpsAt 0xE307 = [some 18, some 18, some 18, some 18, some 18] := by decide

/-! ## V-ODD: unused codes, ignored bits, and the jump-target parameter -/

theorem test_unused_code_with_jump :
    after 0xE052 start (fun t => (t.a, t.d, t.pc)) = some (5, 0, 10) := by decide

theorem test_unused_code_stores_zero : after 0xF808 start (fun t => (Memory.read t.ram 5, t.d, t.pc)) = some (0, 3, 2) := by
  decide

theorem test_unused_bits_ignored :
    after 0x8010 start (·.d) = some 1 ∧ after 0xA010 start (·.d) = some 1 ∧ after 0xC010 start (·.d) = some 1 ∧
    after 0xE010 start (·.d) = some 1 := by decide

/-- 0xEDE7, `A=A+1;JMP`, under both values of `JUMP_TARGET_A`. -/
theorem test_jump_target_a_plus_1 :
    (cInstr .old .regA .incX ⟨true, false, false⟩ .jmp start).pc = 10 ∧
    (cInstr .new .regA .incX ⟨true, false, false⟩ .jmp start).pc = 12 := by decide

/-- 0xFDEF, `AM=M+1;JMP`, under both values of `JUMP_TARGET_A`. -/
theorem test_jump_target_am_plus_1 :
    (cInstr .old .memM .incX ⟨true, false, true⟩ .jmp start).pc = 10 ∧
    (cInstr .new .memM .incX ⟨true, false, true⟩ .jmp start).pc = 16 ∧
    (cInstr .new .memM .incX ⟨true, false, true⟩ .jmp start).ram = [(5, 8)] := by decide

/-! ## V-JTARGET: jump targets at the edges of A -/

theorem test_jump_target_not_truncated :
    after 0xEA87 (at0 0 0 []) (·.pc) = some 0 ∧ after 0xEA87 (at0 0x7FFF 0 []) (·.pc) = some 65534 ∧
    after 0xEA87 (at0 0x8000 0 []) (·.pc) = some 65536 ∧ after 0xEA87 (at0 0xFFFF 0 []) (·.pc) = some 131070 ∧
    after 0xEA80 (at0 0xFFFF 0 []) (·.pc) = some 2 := by decide

/-- The fall-through at pc = 131070 wraps to 0 (V-FETCH). -/
theorem test_pc_wraps : after 0x0000 { start with pc := 131070 } (·.pc) = some 0 := by decide

/-! ## V-FETCH: instruction fetch, big-endian, and past the end of the ROM under both values of `FETCH_OOB` -/

theorem test_step_a_instruction :
    onNext (step { State.reset with rom := [0x30, 0x39] }) (fun t => (t.a, t.pc, t.cc)) = some (0x3039, 2, 1) := by decide

theorem test_step_big_endian :
    onNext (step { State.reset with a := 5, rom := [0xEC, 0x10] }) (fun t => (t.d, t.pc, t.cc)) = some (5, 2, 1) := by decide

theorem test_fetch_past_end :
    fetchUnder .zero { State.reset with a := 3, pc := 2, cc := 1, rom := [0x00, 0x07] } = .word 0 ∧
    fetchUnder .fault { State.reset with a := 3, pc := 2, cc := 1, rom := [0x00, 0x07] } = .outOfRange ∧
    fetchUnder .zero State.reset = .word 0 ∧ fetchUnder .fault State.reset = .outOfRange := by decide

theorem test_fetch_past_end_zero_executes :
    onNext (runFetched (.word 0) { State.reset with a := 3, pc := 2, cc := 1, rom := [0x00, 0x07] })
      (fun t => (t.a, t.pc, t.cc)) = some (0, 4, 2) := by decide

/-- A placed word runs as the first instruction after reset (0xEFD0, `D=1`). -/
theorem test_with_fetch_word :
    onNext (step (State.reset.withFetchWord 16 0xEFD0)) (fun t => (t.d, t.pc, t.cc)) = some (1, 2, 1) := by decide

/-! ## V-LOAD: ROM load -/

/-- The 4 bytes of P6, loaded. -/
def p6 : State := { State.reset with rom := [0x00, 0x07, 0xEC, 0x10] }

theorem test_load_accepted : loadRomUnder 4 [0x00, 0x07, 0xEC, 0x10] State.reset = .ok p6 := by rfl

theorem test_load_odd : loadRomUnder 4 [0x00, 0x07, 0xEC] p6 = .error .romOddLength := by rfl

theorem test_load_too_large : loadRomUnder 4 [0, 0, 0, 0, 0, 0] p6 = .error .romTooLarge := by rfl

/-! ## V-LOADER: program text to bytes -/

/-- The bytes of an ASCII text. -/
def ascii (text : String) : List Byte := text.toList.map fun c => BitVec.ofNat 8 c.toNat

theorem test_loader_one_line : parseProgram (ascii "0011000000111001\n") = .ok [0x30, 0x39] := by rfl

theorem test_loader_no_terminator : parseProgram (ascii "0011000000111001") = .ok [0x30, 0x39] := by rfl

theorem test_loader_empty : parseProgram [] = .ok [] := by rfl

theorem test_loader_sentinel : parseProgram (ascii "0011000000111001\n" ++ 0 :: ascii "rest") = .ok [0x30, 0x39] := by rfl

theorem test_loader_any_terminator :
    parseProgram (ascii "0011000000111001X1110111111010000\n") = .ok [0x30, 0x39, 0xEF, 0xD0] := by rfl

theorem test_loader_15_digits : parseProgram (ascii "001100000011100\n") = .error .malformedProgram := by rfl

theorem test_loader_wrong_digit : parseProgram (ascii "0011000000121001\n") = .error .malformedProgram := by rfl

theorem test_loader_crlf :
    parseProgram (ascii "0011000000111001\r\n1110111111010000\r\n") = .error .malformedProgram := by rfl

/-! ## V-RAM: RAM map and host access -/

theorem test_keyboard_read : after 0xFC10 (at0 24576 0 [(24576, 65)]) (·.d) = some 65 := by decide

theorem test_keyboard_program_write : after 0xEA88 (at0 24576 0 [(24576, 65)]) (·.ram) = some [] := by decide

theorem test_last_word_writable : after 0xEE88 (at0 0xFFFF 0 []) (·.ram) = some [(65535, 0xFFFF)] := by decide

theorem test_host_ram_past_end :
    (Block.construct.perform (.ramRead 70000)).1 = .word 0 ∧
    (Block.construct.perform (.ramWrite 70000 5)).2 = Block.construct := by decide

/-- S7: reset after a run keeps the ROM and clears the rest. -/
theorem test_reset_keeps_rom :
    (Block.perform .reset ⟨{ p6 with a := 6, d := 5, pc := 12, cc := 8, ram := [(0, 5)] }, none⟩).2 = ⟨p6, none⟩ := by decide

/-- Pixel (row 0, column 0) is bit 0 of word 16384 and pixel (1, 17) is bit 1 of word 16417 (R64). -/
theorem test_screen_pixels :
    screenPixel [(16384, 1)] 0 0 = true ∧ screenPixel [(16384, 1)] 0 1 = false ∧ screenPixel [(16417, 2)] 1 17 = true := by
  decide

/-! ## Spelling (R94): the source's own triple, an A-instruction, and words the syntax cannot spell -/

theorem test_spelling :
    spellWord 0xE7D1 = .comp "D" "D+1" "JGT" ∧ spellWord 0x3039 = .at 12345 ∧ spellWord 0xFA90 = .word 0xFA90 ∧
    spellWord 0xE040 = .word 0xE040 ∧ spellWord 0x8010 = .word 0x8010 := by decide

/-! ## Witnesses: for every statement with hypotheses, a state and operands that meet them together -/

/-- pc 0 with the first slot of P6 (`@7`) as the whole ROM. -/
def oneWord : State := { State.reset with rom := [0x00, 0x07] }

/-- It meets the invariant under the smallest capacity that holds it, and under the largest. -/
theorem witness_inv : InvUnder 2 oneWord ∧ InvUnder 131072 oneWord := ⟨⟨rfl, rfl, rfl⟩, ⟨rfl, rfl, rfl⟩⟩

/-- The constructed block meets the invariant under the smallest capacity R6 admits. -/
theorem witness_inv_no_capacity : InvUnder 0 State.reset := ⟨rfl, rfl, rfl⟩

theorem witness_step_next : step oneWord = .next { oneWord with a := 7, pc := 2, cc := 1 } := by rfl

/-- StepKeepsInvariant, RomIsReadOnlyToPrograms, PcMovesOnOrJumpsToA, ChangesHaveTheirWriter. -/
theorem witness_inv_and_step : ∃ s t, InvUnder 2 s ∧ step s = .next t :=
  ⟨oneWord, _, witness_inv.1, witness_step_next⟩

/-- StepHasTwoOutcomes: a state of the invariant past the ROM's end, beside `oneWord` inside it. -/
theorem witness_inv_past_end : InvUnder 2 { oneWord with pc := 2 } ∧ ({ oneWord with pc := 2 } : State).rom.length ≤ 2 :=
  ⟨⟨rfl, rfl, rfl⟩, by decide⟩

/-- InterfaceKeepsInvariant: whatever the capacity is, a block that holds something in its RAM. -/
theorem witness_block_inv : Inv ((Block.construct.perform (.ramWrite 24576 65)).2).state := ⟨rfl, rfl, by
  simp [Block.perform, Block.ramWrite, Block.construct, State.reset, romImageOk]⟩

/-- HostRamAccess. -/
theorem witness_block_ram : Memory.wf ((Block.construct.perform (.ramWrite 65535 1)).2).state.ram = true := by decide

/-- ResetKeepsOnlyTheRom: a block whose ROM holds a slot 0. -/
theorem witness_reset_rom : ((⟨oneWord, none⟩ : Block).perform .reset).2.state = oneWord ∧
    (⟨oneWord, none⟩ : Block).state.rom = 0x00 :: 0x07 :: [] := by decide

/-- HighBitClassifies: the last A-instruction word and the first C-instruction word. -/
theorem witness_high_bit : (0x7FFF#16).toNat < 32768 ∧ 32768 ≤ (0x8000#16).toNat := by decide

/-- DecoderFollowsOpcodeTable: the row of `A=M` holds the word 0xFC20. -/
theorem witness_table_row :
    0xFC20#16 &&& (Instr.mReg ⟨true, false, false⟩ .never).rowMask = (Instr.mReg ⟨true, false, false⟩ .never).rowMatch := by
  decide

/-- StepRunsDecodedInstruction, and the second part of AInstructionLoadsImmediate. -/
theorem witness_step_bytes : oneWord.pc.toNat % 2 = 0 ∧ oneWord.rom[oneWord.pc.toNat]? = some 0x00 ∧
    oneWord.rom[oneWord.pc.toNat + 1]? = some 0x07 ∧ (7#16).toNat = 256 * (0x00#8).toNat + (0x07#8).toNat ∧
    (0x00#8).toNat < 128 := by decide

/-- AInstructionLoadsImmediate at the last value of the high byte. -/
theorem witness_step_bytes_high : (0x7F#8).toNat < 128 ∧ ({ oneWord with rom := [0x7F, 0xFF] } : State).rom[0]? = some 0x7F ∧
    ({ oneWord with rom := [0x7F, 0xFF] } : State).rom[1]? = some 0xFF := by decide

/-- FetchPastTheRom: the first byte offset past the ROM. -/
theorem witness_past_end : ({ oneWord with pc := 2 } : State).pc.toNat % 2 = 0 ∧
    ({ oneWord with pc := 2 } : State).rom.length ≤ ({ oneWord with pc := 2 } : State).pc.toNat := by decide

/-- OddFetchIsRefused. -/
theorem witness_odd : ({ oneWord with pc := 1 } : State).pc.toNat % 2 = 1 := by decide

/-- StepInsideRomCompletes: the last slot of the ROM. -/
theorem witness_in_range : oneWord.pc.toNat % 2 = 0 ∧ FetchInRange oneWord := ⟨by decide, by unfold FetchInRange; decide⟩

/-- CcCountsInstructions, with cc at its wrap. -/
theorem witness_run : Sys2Proof.core.run 1 { oneWord with cc := 0xFFFFFFFFFFFFFFFF } =
    .next { oneWord with a := 7, pc := 2, cc := 0 } := by rfl

/-- RomIsReadOnlyToPrograms: an accepted load at the slot the next fetch reads. -/
theorem witness_load_accepted : loadRomUnder 2 [0x00, 0x07] State.reset = .ok oneWord ∧
    State.reset.pc.toNat % 2 = 0 ∧ [0x00#8, 0x07#8][State.reset.pc.toNat]? = some 0x00 ∧
    [0x00#8, 0x07#8][State.reset.pc.toNat + 1]? = some 0x07 := ⟨rfl, by decide, by decide, by decide⟩

/-- RomIsReadOnlyToPrograms: a load on a block that is accepted whatever the capacity is. -/
theorem witness_block_load_accepted : (Block.construct.perform (.loadRom [])).1 = .accepted := by
  have h : loadRom [] State.reset = .ok (State.reset.setRom []) := loadRom_of_wf _ _ (by simp [RomImage.wf, romImageOk])
  simp only [Block.perform, Block.loadRom, Block.construct, h]

/-- RomIsReadOnlyToPrograms: an operation that is neither a load nor `construct`. -/
theorem witness_other_op : HostOp.step ≠ .construct ∧ (∀ bytes, HostOp.step ≠ .loadRom bytes) ∧
    (∀ text, HostOp.step ≠ .loadText text) := by simp

/-- CanonicalRamsAreEqual. -/
theorem witness_canonical : Memory.wf [(5, 7), (65535, 1)] = true := by decide

/-- The canonical form refuses a listed 0, a falling address and an address past the RAM. -/
theorem test_not_canonical : Memory.wf [(5, 0)] = false ∧ Memory.wf [(5, 7), (4, 1)] = false ∧ Memory.wf [(65536, 1)] = false := by
  decide

/-- CInstructionWritesOnlyItsDestinations: all destinations, and none. -/
theorem witness_dest : (Instr.incM ⟨true, true, true⟩ .never).dest? = some ⟨true, true, true⟩ ∧
    (Instr.incM ⟨false, false, false⟩ .never).dest? = some ⟨false, false, false⟩ := by decide

/-- UnusedCodesComputeZero: the first and the last of the list. -/
theorem witness_unused : Instr.unused000001 .regA ⟨false, true, false⟩ .jeq ∈ unusedForms .regA ⟨false, true, false⟩ .jeq ∧
    Instr.unused111110 .memM ⟨false, true, false⟩ .jeq ∈ unusedForms .memM ⟨false, true, false⟩ .jeq ∧
    (unusedForms .memM ⟨false, true, false⟩ .jeq).length = 46 := by decide

/-- EmptyDestinationOnlyMovesPc, DecodedWordFollowsPseudocode: `D+1` with no destination. -/
theorem witness_empty_dest : 32768 ≤ (0xE7C0#16).toNat ∧ (0xE7C0#16).toNat / 8 % 8 = 0 := by decide

/-- OperandAReadsNoRam: a word with a = 0, and an A-instruction with bit 12 set. -/
theorem witness_operand_a : (0xEC10#16).toNat / 4096 % 2 = 0 ∧ (0x1000#16).toNat < 32768 := by decide

/-- OperandAReadsNoRam, its clauses on RAM: `M=D+A` stores at the old A and at no other word, whatever the RAM held; an
A-instruction with bit 3 set stores nowhere. -/
theorem witness_operand_a_store : (0xE088#16).toNat / 4096 % 2 = 0 ∧ (32768 ≤ (0xE088#16).toNat ∧ (0xE088#16).toNat / 8 % 2 = 1) ∧
    ¬ ((32768 ≤ (0xE088#16).toNat ∧ (0xE088#16).toNat / 8 % 2 = 1) ∧ 65535 = ({ p6 with a := 65534 } : State).a.toNat) ∧
    ¬ ((32768 ≤ (0x1008#16).toNat ∧ (0x1008#16).toNat / 8 % 2 = 1) ∧ 0 = State.reset.a.toNat) := by decide

/-- RomLoadAcceptsOrRejects: for each clause an image at the capacity's boundary, a full ROM, one slot or one byte too many, and
one byte short of full; and the capacity 0, which only an empty image fits. -/
theorem witness_rom_load :
    ([0#8, 0#8].length % 2 = 0 ∧ [0#8, 0#8].length ≤ 2) ∧ ([0#8, 0#8, 0#8, 0#8].length % 2 = 0 ∧ 2 < [0#8, 0#8, 0#8, 0#8].length) ∧
    ([0#8].length % 2 = 1 ∧ [0#8].length ≤ 2) ∧ ([0#8, 0#8, 0#8].length % 2 = 1 ∧ 2 < [0#8, 0#8, 0#8].length) ∧
    (([] : List Byte).length % 2 = 0 ∧ ([] : List Byte).length ≤ 0) := by decide

/-- Under the capacity 0 the empty image loads and a one-slot image is too large (R6, R63). -/
theorem test_load_no_capacity : loadRomUnder 0 [] oneWord = .ok State.reset ∧
    loadRomUnder 0 [0x00, 0x07] State.reset = .error .romTooLarge := ⟨rfl, rfl⟩

/-- FaultIsKeptUntilReset: a block without and one with a recorded fault. -/
theorem witness_fault : (⟨oneWord, none⟩ : Block).fault = none ∧
    (⟨oneWord, some (.fetchOutOfRange 2)⟩ : Block).fault = some (.fetchOutOfRange 2) ∧
    HostOp.step ≠ .reset ∧ HostOp.step ≠ .construct := by decide

/-- KeyHoldsThroughBatch: a batch of one step that stores nothing. -/
theorem witness_batch : ∃ t, Sys2Proof.core.run 1 ((⟨oneWord, none⟩ : Block).perform (.ramWrite 24576 65)).2.state = .next t ∧
    ∀ k u, k < 1 → Sys2Proof.core.run k ((⟨oneWord, none⟩ : Block).perform (.ramWrite 24576 65)).2.state = .next u →
      ¬ Stores u 24576 := by
  refine ⟨_, rfl, ?_⟩
  intro k u hk hu
  obtain rfl : k = 0 := by omega
  rw [core_run_zero] at hu
  injection hu with hu
  subst hu
  rintro ⟨w, d, hf, hd, -⟩
  injection hf with hw
  subst hw
  cases hd

/-- ScreenPixelsAreTheBufferBits: the last pixel, and the last word of the buffer. -/
theorem witness_pixel : 255 < 256 ∧ 511 < 512 ∧ 16384 + 32 * 255 + 511 / 16 = 24575 ∧ 24575 < 65536 ∧ 15 < 16 := by decide

/-- MalformedTextIsNotLoaded: 15 digits, and a carriage return where a digit is required. -/
theorem witness_malformed : (List.replicate 15 0x30#8).length < 16 ∧ (∀ b ∈ List.replicate 15 0x30#8, IsDigit b) ∧
    List.replicate 15 0x30#8 ≠ [] ∧ ¬ IsDigit 0x0D#8 ∧ (0x0D#8 : Byte) ≠ 0 := by
  refine ⟨by decide, fun b hb => .inl (List.eq_of_mem_replicate hb), by decide, ?_, by decide⟩
  unfold IsDigit
  decide

end Sys2Proof.Tests
end

namespace Sys2Proof.Machine

/-! ## Where a fetch finds its bytes, and the outcomes of a step (R10, R55, R57) -/

/-- A ROM image is made of whole instruction slots (R31, R63). -/
theorem romImageOk_length_even {cap : Nat} {bytes : List Byte} (h : romImageOk cap bytes = true) :
    bytes.length % 2 = 0 := by
  simp only [romImageOk, Bool.and_eq_true, beq_iff_eq] at h
  exact h.1

/-- Bit 0 of an even byte offset, as a number. -/
theorem pc_even_of_bit0 {pc : PcWord} (h : pc[0] = false) : pc.toNat % 2 = 0 := by
  simpa [pc_bit0] using h

/-- Under the invariant no fetch meets half a slot: pc and the ROM's length are both even. -/
theorem InvUnder.fetchInRange_or_past {cap : Nat} {s : State} (h : InvUnder cap s) :
    FetchInRange s ∨ s.rom.length ≤ s.pc.toNat := by
  have hpc := pc_even_of_bit0 h.pcEven
  have hrom := romImageOk_length_even h.romWf
  unfold FetchInRange
  omega

/-- A fetch inside the ROM delivers a word, whatever `FETCH_OOB` is (R55). -/
theorem fetch_of_inRange {s : State} (heven : s.pc[0] = false) (h : FetchInRange s) : ∃ w, fetch s = .word w := by
  unfold FetchInRange at h
  exact ⟨_, fetch_of_bytes s _ _ heven (romByte_eq_some s.rom s.pc.toNat (by omega)) (romByte_eq_some s.rom _ h)⟩

/-- Under the invariant a fetch fails only past the end of the ROM, and only under `FETCH_OOB = FAULT` (R57). -/
theorem InvUnder.fault_and_past_of_outOfRange {cap : Nat} {s : State} (h : InvUnder cap s)
    (hf : fetch s = .outOfRange) : Config.fetchOob = .fault ∧ s.rom.length ≤ s.pc.toNat := by
  rcases h.fetchInRange_or_past with hin | hpast
  · obtain ⟨w, hw⟩ := fetch_of_inRange h.pcEven hin
    rw [hw] at hf
    cases hf
  · rw [fetch_past s h.pcEven hpast] at hf
    cases hoob : Config.fetchOob with
    | zero => rw [hoob] at hf; cases hf
    | fault => exact ⟨rfl, hpast⟩

/-- Settles O11: of the three ways a step can go (`step_cases`), the invariant's even pc rules the refusal out, and its
whole-slot ROM places the fault past the end. -/
theorem stepHasTwoOutcomes : Obligations.StepHasTwoOutcomes := by
  unfold Obligations.StepHasTwoOutcomes
  intro cap s hinv
  obtain ⟨_, _, _, hnext⟩ | ⟨_, hfetch, hfault⟩ | ⟨hodd, _, _⟩ := step_cases s
  · exact .inl ⟨_, hnext⟩
  · obtain ⟨hoob, hpast⟩ := hinv.fault_and_past_of_outOfRange hfetch
    exact .inr ⟨hoob, hpast, hfault⟩
  · rw [hinv.pcEven] at hodd
    cases hodd

end Sys2Proof.Machine

namespace Sys2Proof.Machine

/-! ## What the read-outs of the interface answer (R36) -/

@[simp] theorem Block.perform_readA (b : Block) : b.perform .readA = (.word b.state.a, b) := rfl

@[simp] theorem Block.perform_readD (b : Block) : b.perform .readD = (.word b.state.d, b) := rfl

@[simp] theorem Block.perform_readPc (b : Block) : b.perform .readPc = (.pcValue b.state.pc, b) := rfl

@[simp] theorem Block.perform_readCc (b : Block) : b.perform .readCc = (.ccValue b.state.cc, b) := rfl

/-- Settles O39: one equation of `perform` per read-out, each with the block itself as the block afterwards. -/
theorem readOutsChangeNothing : Obligations.ReadOutsChangeNothing := by
  unfold Obligations.ReadOutsChangeNothing
  intro b
  exact ⟨b.perform_readA, b.perform_readD, b.perform_readPc, b.perform_readCc⟩

end Sys2Proof.Machine

namespace Sys2Proof.Machine

open Sys2Proof.Claims

/-! ## The ROM is only read by a program: fetched from, and written by a load alone (R55, R73) -/

/-- A fetched word as a number: the byte at pc weighs 256 (R55, R58). -/
theorem wordOfBytes_toNat (hi lo : Byte) : (wordOfBytes hi lo).toNat = 256 * hi.toNat + lo.toNat := by
  have := lo.isLt
  rw [wordOfBytes, BitVec.toNat_append, ← Nat.shiftLeft_add_eq_or_of_lt (by omega), Nat.shiftLeft_eq]
  omega

/-- An even byte offset has bit 0 clear. -/
theorem pc_bit0_of_even {pc : PcWord} (h : pc.toNat % 2 = 0) : pc[0] = false := by
  simp [pc_bit0, h]

/-- The count of a fetch in the statements' own words (R56). -/
theorem withCc_succ (s : State) : withCc s (s.cc + 1) = s.countInstr := rfl

/-- Settles O8: the two bytes make the word `w` (`wordOfBytes_toNat`), which is what the fetch delivers and the step runs. -/
theorem stepRunsDecodedInstruction : Obligations.StepRunsDecodedInstruction := by
  unfold Obligations.StepRunsDecodedInstruction
  intro s hi lo w heven hhi hlo hw
  have hword : wordOfBytes hi lo = w := BitVec.eq_of_toNat_eq ((wordOfBytes_toNat hi lo).trans hw.symm)
  have hfetch : fetch s = .word w := hword ▸ fetch_of_bytes s hi lo (pc_bit0_of_even heven) hhi hlo
  rw [step_of_fetch s w hfetch, withCc_succ]

/-- No instruction writes ROM (R73). -/
theorem step_rom {s t : State} (h : step s = .next t) : t.rom = s.rom := by
  obtain ⟨w, _, _, rfl⟩ := step_next s t h
  simp

/-- Instructions are fetched from ROM, not from RAM (R73). -/
@[simp] theorem fetch_withRam (s : State) (m : Memory) : fetch (withRam s m) = fetch s := rfl

/-- A step taken through the interface, whether it is taken, faults or is refused, writes no ROM. -/
@[simp] theorem Block.step_rom (b : Block) : b.step.2.state.rom = b.state.rom := by
  unfold Block.step
  split
  · rfl
  · split
    next t ht => exact Machine.step_rom ht
    next => rfl
    next => rfl

/-- No operation but a load and `construct` changes ROM (R73). -/
theorem Block.perform_rom (b : Block) {op : HostOp} (hconstruct : op ≠ .construct) (hload : ∀ bytes, op ≠ .loadRom bytes)
    (htext : ∀ text, op ≠ .loadText text) : (b.perform op).2.state.rom = b.state.rom := by
  cases op with
  | construct => exact absurd rfl hconstruct
  | loadRom bytes => exact absurd rfl (hload bytes)
  | loadText text => exact absurd rfl (htext text)
  | step => exact b.step_rom
  | reset | ramRead | ramWrite | readA | readD | readPc | readCc => rfl

/-- After an accepted load the next fetch reads the bytes it brought (R63, R73). -/
theorem fetch_of_loadRomUnder_ok {cap : Nat} {bytes : List Byte} {s t : State} {hi lo : Byte}
    (h : loadRomUnder cap bytes s = .ok t) (heven : s.pc.toNat % 2 = 0) (hhi : bytes[s.pc.toNat]? = some hi)
    (hlo : bytes[s.pc.toNat + 1]? = some lo) : fetch t = .word (wordOfBytes hi lo) := by
  obtain ⟨_, rfl⟩ := loadRomUnder_ok cap bytes s t h
  exact fetch_of_bytes _ hi lo (pc_bit0_of_even heven) hhi hlo

/-- A block that answers `accepted` to a ROM load holds the state that load gives (R63). -/
theorem Block.loadRom_of_accepted {b : Block} {bytes : List Byte} (h : (b.perform (.loadRom bytes)).1 = .accepted) :
    Machine.loadRom bytes b.state = .ok (b.perform (.loadRom bytes)).2.state := by
  simp only [Block.perform, Block.loadRom] at h ⊢
  cases hload : Machine.loadRom bytes b.state with
  | ok t => rfl
  | error e => rw [hload] at h; cases h

/-- Settles O15, one lemma for each of its five parts. -/
theorem romIsReadOnlyToPrograms : Obligations.RomIsReadOnlyToPrograms := by
  unfold Obligations.RomIsReadOnlyToPrograms
  exact ⟨fun _ _ => step_rom, fetch_withRam, fun _ b => b.perform_rom, fun _ _ _ _ _ _ => fetch_of_loadRomUnder_ok,
    fun _ _ => Block.loadRom_of_accepted⟩

end Sys2Proof.Machine

namespace Sys2Proof.Machine

open Sys2Proof.Claims

/-! ## How the loader reads a text: digits, whole groups, and where it stops (R75, R76) -/

/-- The word being read, after one more digit (R75). -/
def pushDigit (acc : Word) (b : Byte) : Word := (acc <<< 1) ||| (BitVec.ofBool (b == 0x31#8)).setWidth 16

theorem digitBit_of_isDigit {b : Byte} (h : IsDigit b) : digitBit b = some (b == 0x31#8) := by
  obtain rfl | rfl := h <;> rfl

theorem digitBit_of_not_isDigit {b : Byte} (h : ¬ IsDigit b) : digitBit b = none := by
  obtain ⟨h0, h1⟩ := not_or.mp h
  simp [digitBit, h0, h1]

theorem ne_zero_of_isDigit {b : Byte} (h : IsDigit b) : b ≠ 0#8 := by
  obtain rfl | rfl := h <;> decide

/-- A digit where one is required is pushed onto the word being read. -/
theorem parseGroups_digit {k : Nat} {b : Byte} (acc : Word) (rest : List Byte) (hk : k < 16) (hb : IsDigit b) :
    parseGroups k acc (b :: rest) = parseGroups (k + 1) (pushDigit acc b) rest := by
  simp [parseGroups, pushDigit, digitBit_of_isDigit hb, ne_zero_of_isDigit hb, hk.ne]

/-- Digits are read one after the other, as far as the group has room for them. -/
theorem parseGroups_digits {k : Nat} {ds : List Byte} (acc : Word) (rest : List Byte) (hds : ∀ b ∈ ds, IsDigit b)
    (hk : k + ds.length ≤ 16) :
    parseGroups k acc (ds ++ rest) = parseGroups (k + ds.length) (ds.foldl pushDigit acc) rest := by
  induction ds generalizing k acc with
  | nil => rfl
  | cons b ds ih =>
    obtain ⟨hb, hds⟩ := List.forall_mem_cons.mp hds
    rw [List.length_cons] at hk ⊢
    rw [List.cons_append, parseGroups_digit acc _ (by omega) hb, ih _ hds (by omega), List.foldl_cons,
      Nat.add_right_comm, Nat.add_assoc]

/-- A text that begins with digits, at most a group of them. -/
theorem parseProgram_digits {ds : List Byte} (rest : List Byte) (hds : ∀ b ∈ ds, IsDigit b) (hlen : ds.length ≤ 16) :
    parseProgram (ds ++ rest) = parseGroups ds.length (ds.foldl pushDigit 0) rest := by
  have h := parseGroups_digits (k := 0) 0 rest hds (by omega)
  rwa [Nat.zero_add] at h

/-- After 16 digits one byte of any value is passed over, and the word's two bytes stand before what the rest gives (R75). -/
theorem parseGroups_terminator (acc : Word) (terminator : Byte) (rest : List Byte) :
    parseGroups 16 acc (terminator :: rest) =
      (parseProgram rest).map fun bytes => hiByte acc :: loByte acc :: bytes := by
  simp only [parseGroups, ↓reduceIte, parseProgram]
  cases parseGroups 0 0#16 rest <;> rfl

/-- A text that ends inside a group is malformed (R76). -/
theorem parseGroups_end {k : Nat} (acc : Word) (hpos : 0 < k) (hk : k < 16) :
    parseGroups k acc [] = .error .malformedProgram := by
  simp [parseGroups, hpos.ne', hk.ne]

/-- A byte that is no digit where a digit is required, but for the sentinel at the head of a group, is malformed (R76). -/
theorem parseGroups_not_digit {k : Nat} {b : Byte} (acc : Word) (rest : List Byte) (hk : k < 16) (hb : ¬ IsDigit b)
    (hsentinel : k ≠ 0 ∨ b ≠ 0#8) : parseGroups k acc (b :: rest) = .error .malformedProgram := by
  have hnot : ¬ (k = 0 ∧ b = 0#8) := not_and_or.mpr hsentinel
  simp [parseGroups, hk.ne, hnot, digitBit_of_not_isDigit hb]

theorem digits_length (w : Word) : (digits w).length = 16 := rfl

theorem isDigit_of_mem_digits {w : Word} {b : Byte} (h : b ∈ digits w) : IsDigit b := by
  obtain ⟨n, _, rfl⟩ := List.mem_map.mp h
  split
  · exact .inr rfl
  · exact .inl rfl

/-- A whole group puts two bytes before what the rest of the text gives, or passes on its error (R75). -/
theorem parseProgram_group (w : Word) (terminator : Byte) (rest : List Byte) :
    parseProgram (digits w ++ terminator :: rest) = (parseProgram rest).map fun bytes =>
      hiByte ((digits w).foldl pushDigit 0) :: loByte ((digits w).foldl pushDigit 0) :: bytes := by
  rw [parseProgram_digits _ (fun _ => isDigit_of_mem_digits) (digits_length w).le, digits_length, parseGroups_terminator]

/-- Whole groups before a malformed text leave it malformed. -/
theorem parseProgram_groupText_error (gs : List (Word × Byte)) {rest : List Byte} {e : LoaderError}
    (h : parseProgram rest = .error e) : parseProgram (groupText gs ++ rest) = .error e := by
  induction gs with
  | nil => exact h
  | cons g gs ih =>
    obtain ⟨w, terminator⟩ := g
    rw [groupText, List.append_assoc, List.cons_append, parseProgram_group, ih]
    rfl

/-- A text the loader finds malformed leaves every block as it is (R76). -/
theorem failsToLoad_of_malformed {text : List Byte} (h : parseProgram text = .error .malformedProgram) :
    FailsToLoad text :=
  ⟨h, fun b => by simp only [Block.perform, h]⟩

/-- Settles O46: the whole groups are passed over, the digits of the group after them are read, and there the text ends or has
a byte that is no digit. -/
theorem malformedTextIsNotLoaded : Obligations.MalformedTextIsNotLoaded := by
  unfold Obligations.MalformedTextIsNotLoaded
  intro gs ds hlen hds
  refine ⟨fun hne => failsToLoad_of_malformed (parseProgram_groupText_error gs ?_), fun b tail hb hsentinel => ?_⟩
  · rw [← ds.append_nil, parseProgram_digits [] hds hlen.le]
    exact parseGroups_end _ (List.length_pos_iff.mpr hne) hlen
  · rw [List.append_assoc]
    refine failsToLoad_of_malformed (parseProgram_groupText_error gs ?_)
    rw [parseProgram_digits _ hds hlen.le]
    exact parseGroups_not_digit _ tail hlen hb (hsentinel.imp_left (mt List.length_eq_zero_iff.mp))

end Sys2Proof.Machine

namespace Sys2Proof

/-! ## Bit 15 classifies an instruction word (R81, R82) -/

/-- Bit 15 is set from 2^15 on. -/
theorem bit15_eq_decide (w : Word) : w[15] = decide (32768 ≤ w.toNat) := BitVec.getLsbD_last w

/-- With bit 15 clear, the other fifteen bits are the whole word (R82). -/
theorem imm15_toNat {w : Word} (h : w.toNat < 32768) : (imm15 w).toNat = w.toNat := by
  rw [imm15, BitVec.toNat_setWidth, Nat.mod_eq_of_lt h]

theorem decodeWord_of_bit15_clear {w : Word} (h : w[15] = false) : decodeWord w = .aInstr (imm15 w) := by
  simp [decodeWord, h]

theorem decodeWord_of_bit15_set {w : Word} (h : w[15] = true) : decodeWord w =
    functionTable w[11] w[10] w[9] w[8] w[7] w[6] (srcField w) (destField w) (jumpField w) := by
  simp [decodeWord, h]

/-- All 64 function codes, used or not, and both operand sources: the instruction has the destination field it was given. -/
@[simp] theorem functionTable_dest? (c5 c4 c3 c2 c1 c0 : Bool) (src : OperandSource) (d : Dest) (j : Jump) :
    (functionTable c5 c4 c3 c2 c1 c0 src d j).dest? = some d := by
  fun_cases functionTable c5 c4 c3 c2 c1 c0 src d j <;> cases src <;> rfl

/-- The destination field of a C-instruction word is that of the decoded instruction (R83). -/
theorem decodeWord_dest?_of_bit15_set {w : Word} (h : w[15] = true) : (decodeWord w).dest? = some (destField w) := by
  rw [decodeWord_of_bit15_set h, functionTable_dest?]

/-- Settles O4: the bounds on the word say its bit 15 (`bit15_eq_decide`), and the decoder has one equation for each value of
that bit; with the bit set, every entry of the function table has a destination field (`functionTable_dest?`). -/
theorem highBitClassifies : Obligations.HighBitClassifies := by
  unfold Obligations.HighBitClassifies
  intro w
  constructor
  · intro hlow
    have hclear : w[15] = false := by simpa [bit15_eq_decide] using hlow
    exact ⟨imm15 w, imm15_toNat hlow, decodeWord_of_bit15_clear hclear⟩
  · intro hhigh
    have hset : w[15] = true := by simpa [bit15_eq_decide] using hhigh
    exact ⟨destField w, decodeWord_dest?_of_bit15_set hset⟩

end Sys2Proof

namespace Sys2Proof.Machine

open Sys2Proof.Claims

/-! ## The whole effect of a C-instruction in the statements' vocabulary (R120, R124 to R129) -/

/-- R8's signed reading is the bit vector's. -/
theorem sint16_eq_toInt (v : Word) : sint16 v = v.toInt := by
  rw [sint16, BitVec.toInt_eq_toNat_cond]
  split <;> split <;> omega

/-- The statements' jump condition is the model's, for each of the eight codes (R89, R170). -/
theorem jumpHolds_iff_jumpCond (j : Jump) (r : Word) : JumpHolds j r ↔ jumpCond j r = true := by
  cases j <;> simp [JumpHolds, jumpCond, sint16_eq_toInt]

section
variable (src : OperandSource) (f : AluFn) (d : Dest) (j : Jump) (s : State)

/-- The value a taken jump doubles, read off the states before and after, under either value of `JUMP_TARGET_A` (R128). -/
theorem jumpTarget_eq_targetOf : jumpTarget Config.jumpTargetA d s.a (alu f s.d (operandX src s)) =
    targetOf s (cInstr Config.jumpTargetA src f d j s) := by
  cases hA : d.toA <;> cases hp : Config.jumpTargetA <;> simp [jumpTarget, targetOf, hA, hp]

/-- The common execution has the C-instruction effect of the ALU's result. -/
theorem cInstr_effect : CEffect s (cInstr Config.jumpTargetA src f d j s) d j (alu f s.d (operandX src s)) where
  regA := cInstr_a ..
  regD := cInstr_d ..
  stored hM := by rw [cInstr_read, if_pos ⟨hM, rfl⟩]
  unstored n hn := by rw [cInstr_read, if_neg hn]
  taken hj := by
    rw [cInstr_pc, if_pos ((jumpHolds_iff_jumpCond ..).mp hj), slotAddress_toNat, jumpTarget_eq_targetOf]
  fallThrough hj := by
    rw [cInstr_pc, if_neg (mt (jumpHolds_iff_jumpCond ..).mpr hj), nextPc_toNat]
  cc := cInstr_cc ..
  rom := cInstr_rom ..

end

/-- An instruction with the shape of a C-instruction computes what the ALU gives for that shape. -/
theorem computes_of_shape {i : Instr} {src : OperandSource} {f : AluFn} {d : Dest} {j : Jump}
    (h : shape i = .comp src f d j) (s : State) : Computes i s d j (alu f s.d (operandX src s)).toNat := by
  have hexec : exec i s = .next (cInstr Config.jumpTargetA src f d j s) := by rw [exec_eq, h, Shape.run]
  exact ⟨_, _, hexec, rfl, cInstr_effect src f d j s⟩

/-! ## The unused function codes (R90, R159) -/

/-- The 46 unused codes are one and the same C-instruction to the machine: the ALU's fallback, with the fields they carry. -/
theorem map_shape_unusedForms (a : OperandSource) (d : Dest) (j : Jump) :
    (unusedForms a d j).map shape = List.replicate 46 (.comp a .unused d j) := rfl

theorem shape_of_mem_unusedForms {a : OperandSource} {d : Dest} {j : Jump} {i : Instr} (h : i ∈ unusedForms a d j) :
    shape i = .comp a .unused d j := by
  have hmem := List.mem_map_of_mem (f := shape) h
  rw [map_shape_unusedForms] at hmem
  exact List.eq_of_mem_replicate hmem

/-- Settles O30: all 46 have the shape of the ALU's fallback (`shape_of_mem_unusedForms`), whose result is 0 whatever the operands
(R159, the spec's decision D6), and a shape's other fields act alike for every function (`computes_of_shape`). -/
theorem unusedCodesComputeZero : Obligations.UnusedCodesComputeZero := by
  unfold Obligations.UnusedCodesComputeZero
  intro a d j s i hi
  have hzero : (alu .unused s.d (operandX a s)).toNat = 0 := rfl
  have hcomputes := computes_of_shape (shape_of_mem_unusedForms hi) s
  rwa [hzero] at hcomputes

end Sys2Proof.Machine

namespace Sys2Proof.Machine

/-! ## The A-instruction and its step (R110, R111) -/

/-- `@k` completes in every state (R110). -/
theorem exec_aInstr (k : BitVec 15) (s : State) :
    exec (.aInstr k) s = .next ((s.setA (immediate k)).setPc (nextPc s.pc)) := exec_eq (.aInstr k) s

/-- A slot whose first byte has its high bit clear holds `@k`, with k the whole word (R82). -/
theorem decodeWord_wordOfBytes_of_lt {hi : Byte} (lo : Byte) (h : hi.toNat < 128) :
    ∃ k : BitVec 15, k.toNat = 256 * hi.toNat + lo.toNat ∧ decodeWord (wordOfBytes hi lo) = .aInstr k := by
  have hlo := lo.isLt
  have hlow : (wordOfBytes hi lo).toNat < 32768 := by rw [wordOfBytes_toNat]; omega
  rw [← wordOfBytes_toNat]
  exact (highBitClassifies _).1 hlow

/-- A step on a slot whose first byte has its high bit clear is `@k` on the counted state (R55, R56). -/
theorem step_of_aInstr_bytes {s : State} {hi lo : Byte} (heven : s.pc.toNat % 2 = 0) (hhi : s.rom[s.pc.toNat]? = some hi)
    (hlo : s.rom[s.pc.toNat + 1]? = some lo) (h : hi.toNat < 128) :
    ∃ k : BitVec 15, k.toNat = 256 * hi.toNat + lo.toNat ∧ step s = exec (.aInstr k) s.countInstr := by
  obtain ⟨k, hk, hdecode⟩ := decodeWord_wordOfBytes_of_lt lo h
  have hfetch := fetch_of_bytes s hi lo (pc_bit0_of_even heven) hhi hlo
  exact ⟨k, hk, by rw [step_of_fetch s _ hfetch, hdecode]⟩

/-- Settles O22: the state `exec_aInstr` gives has its A and pc as numbers by `immediate_toNat` and `nextPc_toNat`; a step on a
slot with the high bit clear is that meaning on the counted state (`step_of_aInstr_bytes`). -/
theorem aInstructionLoadsImmediate : Obligations.AInstructionLoadsImmediate := by
  unfold Obligations.AInstructionLoadsImmediate
  constructor
  · intro k s
    exact ⟨_, exec_aInstr k s, immediate_toNat k, nextPc_toNat s.pc, rfl, rfl, rfl, rfl⟩
  · intro s hi lo heven hhi hlo h
    obtain ⟨k, hk, hstep⟩ := step_of_aInstr_bytes heven hhi hlo h
    rw [hstep, exec_aInstr, ← hk]
    exact ⟨_, rfl, immediate_toNat k, nextPc_toNat s.pc, rfl, rfl, rfl, rfl⟩

end Sys2Proof.Machine

namespace Sys2Proof.Machine

open Sys2Proof.Claims

/-! ## Where the result of any C-instruction goes (R124, R125) -/

/-- An instruction with a destination field is a C-instruction with that field (R82, R83). -/
theorem exists_shape_of_dest? {i : Instr} {d : Dest} (h : i.dest? = some d) : ∃ src f j, shape i = .comp src f d j := by
  rw [dest?_eq] at h
  cases hshape : shape i with
  | imm k => rw [hshape] at h; cases h
  | comp src f d' j =>
    rw [hshape] at h
    injection h with hd
    exact ⟨src, f, j, by rw [hd]⟩

/-- Every instruction with a destination field completes with the effect of one ALU result, in every state (R120). -/
theorem exec_effect_of_dest? {i : Instr} {d : Dest} (h : i.dest? = some d) (s : State) :
    ∃ j t r, exec i s = .next t ∧ CEffect s t d j r := by
  obtain ⟨src, f, j, hshape⟩ := exists_shape_of_dest? h
  obtain ⟨t, r, hexec, -, heffect⟩ := computes_of_shape hshape s
  exact ⟨j, t, r, hexec, heffect⟩

/-- Settles O34: the destination field makes the instruction a C-instruction (`exists_shape_of_dest?`), and the clauses on its
destinations are those of the C-instruction effect, which addresses M by the A from before (R125). -/
theorem cInstructionWritesOnlyItsDestinations : Obligations.CInstructionWritesOnlyItsDestinations := by
  unfold Obligations.CInstructionWritesOnlyItsDestinations
  intro i d s hdest
  obtain ⟨j, t, r, hexec, heffect⟩ := exec_effect_of_dest? hdest s
  refine ⟨t, r, hexec, heffect.stored, fun hA => ?_, fun hD => ?_, fun hA => ?_, fun hD => ?_, heffect.unstored,
    heffect.rom, heffect.cc⟩
  · rw [heffect.regA, if_pos hA]
  · rw [heffect.regD, if_pos hD]
  · rw [heffect.regA, if_neg (Bool.eq_false_iff.mp hA)]
  · rw [heffect.regD, if_neg (Bool.eq_false_iff.mp hD)]

end Sys2Proof.Machine

namespace Sys2Proof.Machine

open Sys2Proof.Claims

/-! ## Wrap-around arithmetic in the unsigned and the signed reading (R8, R160) -/

theorem sint16_one : sint16 1#16 = 1 := rfl

section
variable (v w : Word)

theorem add_bothReadings : (v + w).toNat = (v.toNat + w.toNat) % 65536 ∧
    sint16 (v + w) = (sint16 v + sint16 w).bmod 65536 := by
  simp only [sint16_eq_toInt]
  exact ⟨BitVec.toNat_add v w, BitVec.toInt_add v w⟩

/-- The unsigned difference is written with 65536 added before the subtraction, so that no natural difference is cut off at 0. -/
theorem sub_bothReadings : (v - w).toNat = (v.toNat + 65536 - w.toNat) % 65536 ∧
    sint16 (v - w) = (sint16 v - sint16 w).bmod 65536 := by
  simp only [sint16_eq_toInt]
  refine ⟨?_, BitVec.toInt_sub⟩
  have hw := w.isLt
  have hsub : (v - w).toNat = (65536 - w.toNat + v.toNat) % 65536 := BitVec.toNat_sub v w
  rw [hsub]
  congr 1
  omega

theorem neg_bothReadings : (-v).toNat = (65536 - v.toNat) % 65536 ∧ sint16 (-v) = (-sint16 v).bmod 65536 := by
  simp only [sint16_eq_toInt]
  exact ⟨BitVec.toNat_neg v, BitVec.toInt_neg⟩

theorem succ_bothReadings : (v + 1#16).toNat = (v.toNat + 1) % 65536 ∧
    sint16 (v + 1#16) = (sint16 v + 1).bmod 65536 := by
  rw [← sint16_one]
  exact add_bothReadings v 1#16

theorem pred_bothReadings : (v - 1#16).toNat = (v.toNat + 65535) % 65536 ∧
    sint16 (v - 1#16) = (sint16 v - 1).bmod 65536 := by
  rw [← sint16_one]
  exact sub_bothReadings v 1#16

end

/-- Complement, and and or take each bit of the result from the same bit of the operands (R146, R147, R157, R158). -/
theorem alu_logic_getElem (d x : Word) (n : Nat) (h : n < 16) :
    (alu .notD d x)[n] = !d[n] ∧ (alu .notX d x)[n] = !x[n] ∧
      (alu .dAndX d x)[n] = (d[n] && x[n]) ∧ (alu .dOrX d x)[n] = (d[n] || x[n]) :=
  ⟨BitVec.getElem_not h, BitVec.getElem_not h, BitVec.getElem_and h, BitVec.getElem_or h⟩

/-- Settles O32: each arithmetic function is the word's sum, difference or negation, whose two readings the `_bothReadings` lemmas
give; the logical functions act bit by bit (`alu_logic_getElem`); and `exec` always answers a next state (`exec_eq`). -/
theorem arithmeticWrapsInBothReadings : Obligations.ArithmeticWrapsInBothReadings := by
  unfold Obligations.ArithmeticWrapsInBothReadings
  constructor
  · intro d x
    exact ⟨add_bothReadings d x, sub_bothReadings d x, sub_bothReadings x d, succ_bothReadings d, succ_bothReadings x,
      pred_bothReadings d, pred_bothReadings x, neg_bothReadings d, neg_bothReadings x, alu_logic_getElem d x⟩
  · intro i s
    exact ⟨(shape i).run s, exec_eq i s⟩

end Sys2Proof.Machine

namespace Sys2Proof.Machine

/-! ## The reset operation: what it clears and what is fetched after it (R210) -/

@[simp] theorem Block.perform_reset (b : Block) : b.perform .reset = (.done, ⟨resetState b.state, none⟩) := rfl

/-- The pc after a reset is the byte offset of slot 0, and the ROM is still the program's. -/
theorem fetch_resetState_of_rom {s : State} {hi lo : Byte} {rest : List Byte} (h : s.rom = hi :: lo :: rest) :
    fetch (resetState s) = .word (wordOfBytes hi lo) := by
  have heven : (resetState s).pc[0] = false := by simp
  have hhi : romByte (resetState s).rom (resetState s).pc.toNat = some hi := by simp [romByte, h]
  have hlo : romByte (resetState s).rom ((resetState s).pc.toNat + 1) = some lo := by simp [romByte, h]
  exact fetch_of_bytes _ hi lo heven hhi hlo

/-- Settles O2: the fields of the reset state are the `resetState_` lemmas, every read of its empty RAM is `Memory.read_nil`, and
slot 0 is fetched by `fetch_resetState_of_rom`. -/
theorem resetKeepsOnlyTheRom : Obligations.ResetKeepsOnlyTheRom := by
  unfold Obligations.ResetKeepsOnlyTheRom
  rintro b t rfl
  rw [Block.perform_reset]
  exact ⟨resetState_a _, resetState_d _, resetState_pc _, resetState_cc _, Memory.read_nil, resetState_rom _,
    fun _ _ _ => fetch_resetState_of_rom⟩

end Sys2Proof.Machine

namespace Sys2Proof

/-! ## The fields of a C-instruction word, and the function table by its code (R83, R86, R87, R121) -/

/-- The six bits of a function code as one field, c5 the most significant (R86). -/
def codeOf (c5 c4 c3 c2 c1 c0 : Bool) : BitVec 6 :=
  BitVec.ofBool c5 ++ BitVec.ofBool c4 ++ BitVec.ofBool c3 ++ BitVec.ofBool c2 ++ BitVec.ofBool c1 ++ BitVec.ofBool c0

/-- The function code field, bits 11..6 (R83). -/
def codeField (w : Word) : BitVec 6 := w.extractLsb' 6 6

/-- The bits the decoder indexes the function table by are the code field. -/
theorem codeOf_bits (w : Word) : codeOf w[11] w[10] w[9] w[8] w[7] w[6] = codeField w := by
  apply BitVec.eq_of_getLsbD_eq
  intro n hn
  simp only [codeOf, codeField, BitVec.getLsbD_append, BitVec.getLsbD_extractLsb']
  interval_cases n <;> simp

/-- The whole function table in the encoder's terms: every entry is encoded by its own index and operand source. -/
theorem encode_functionTable (c5 c4 c3 c2 c1 c0 : Bool) (src : OperandSource) (d : Dest) (j : Jump) :
    encode (functionTable c5 c4 c3 c2 c1 c0 src d j) = cWord src (codeOf c5 c4 c3 c2 c1 c0) d j := by
  fun_cases functionTable c5 c4 c3 c2 c1 c0 src d j <;> cases src <;> rfl

/-! ## Bit 15 as a bound on the word (R81) -/

theorem bit15_clear_of_lt {w : Word} (h : w.toNat < 32768) : w[15] = false := by simpa [bit15_eq_decide] using h

theorem bit15_set_of_le {w : Word} (h : 32768 ≤ w.toNat) : w[15] = true := by simpa [bit15_eq_decide] using h

theorem lt_of_bit15_clear {w : Word} (h : w[15] = false) : w.toNat < 32768 := by simpa [bit15_eq_decide] using h

theorem le_of_bit15_set {w : Word} (h : w[15] = true) : 32768 ≤ w.toNat := by simpa [bit15_eq_decide] using h

/-! ## Encoding and decoding are inverse to each other, but for the bits u (R82, R83, R91) -/

/-- Decoding inverts encoding: a C-instruction's word decodes by its fields (`decodeWord_cWordU`), and the function table gives
back the constructor whose code the encoder wrote. -/
theorem decodeWord_encode (i : Instr) : decodeWord (encode i) = i := by
  cases i with
  | aInstr k =>
    rw [encode, decodeWord_of_bit15_clear (by simp), imm15]
    congr 1
    simp
  | _ => exact decodeWord_cWordU ..

/-- Settles O6: as a word by `decodeWord_encode`, and the two bytes make that word again (`wordOfBytes_bytes`). -/
theorem decodeAfterEncode : Obligations.DecodeAfterEncode := by
  unfold Obligations.DecodeAfterEncode
  intro i
  refine ⟨decodeWord_encode i, fun rest => ?_⟩
  rw [decode, wordOfBytes_bytes, decodeWord_encode]

/-- A C-instruction word encoded again keeps its thirteen low bits, and its three high bits are set (R91). -/
theorem encode_decodeWord_of_bit15_set {w : Word} (h : w[15] = true) :
    encode (decodeWord w) = 0b111#3 ++ w.setWidth 13 := by
  rw [decodeWord_of_bit15_set h, encode_functionTable, codeOf_bits]
  apply BitVec.eq_of_getElem_eq
  intro n hn
  rw [cWord, cWordU_getElem, BitVec.getElem_append]
  interval_cases n <;> simp [codeField, srcField, destField, jumpField]

theorem encode_decodeWord_of_bit15_clear {w : Word} (h : w[15] = false) : encode (decodeWord w) = w := by
  rw [decodeWord_of_bit15_clear h, encode]
  apply BitVec.eq_of_toNat_eq
  rw [BitVec.toNat_setWidth, imm15_toNat (lt_of_bit15_clear h), Nat.mod_eq_of_lt w.isLt]

/-- Settles O7: with bit 15 clear the word itself comes back; with it set, 0b111 before the thirteen low bits, which weighs
0xE000 more than they do. -/
theorem encodeAfterDecode : Obligations.EncodeAfterDecode := by
  unfold Obligations.EncodeAfterDecode
  intro w
  split
  next hlow =>
    rw [encode_decodeWord_of_bit15_clear (bit15_clear_of_lt hlow)]
  next hhigh =>
    have hmod : w.toNat % 0x2000 < 2 ^ 13 := Nat.mod_lt _ (by omega)
    rw [encode_decodeWord_of_bit15_set (bit15_set_of_le (Nat.not_lt.mp hhigh)), BitVec.toNat_append,
      BitVec.toNat_setWidth, ← Nat.shiftLeft_add_eq_or_of_lt hmod]
    rfl

/-! ## The rows of the opcode table (30_encoding.md section 4) -/

/-- Which bits a row fixes depends on the function code alone. -/
theorem rowMask_functionTable (c5 c4 c3 c2 c1 c0 : Bool) (src src' : OperandSource) (d d' : Dest) (j j' : Jump) :
    (functionTable c5 c4 c3 c2 c1 c0 src d j).rowMask = (functionTable c5 c4 c3 c2 c1 c0 src' d' j').rowMask := by
  fun_cases functionTable c5 c4 c3 c2 c1 c0 src d j <;> cases src <;> cases src' <;> rfl

/-- A C-instruction's row fixes bit 15 and the code field, and the operand-source bit too unless the code is unused. -/
theorem rowMask_functionTable_cases (c5 c4 c3 c2 c1 c0 : Bool) (src : OperandSource) (d : Dest) (j : Jump) :
    (functionTable c5 c4 c3 c2 c1 c0 src d j).rowMask = 0x9FC0#16 ∨
      (functionTable c5 c4 c3 c2 c1 c0 src d j).rowMask = 0x8FC0#16 := by
  fun_cases functionTable c5 c4 c3 c2 c1 c0 src d j <;> cases src <;> simp [bySource, Instr.rowMask]

/-- A row's match is what its mask leaves of the word with the row's operand source and code. -/
theorem rowMatch_functionTable (c5 c4 c3 c2 c1 c0 : Bool) (src : OperandSource) (d : Dest) (j : Jump) :
    (functionTable c5 c4 c3 c2 c1 c0 src d j).rowMatch =
      cWord src (codeOf c5 c4 c3 c2 c1 c0) ⟨false, false, false⟩ .never &&&
        (functionTable c5 c4 c3 c2 c1 c0 src d j).rowMask := by
  fun_cases functionTable c5 c4 c3 c2 c1 c0 src d j <;> cases src <;>
    simp only [bySource, Instr.rowMask, Instr.rowMatch] <;> decide

end Sys2Proof

namespace Sys2Proof

/-- Words that agree under a mask agree on each bit of it. -/
theorem getElem_eq_of_and_eq {w w' m : Word} (h : w &&& m = w' &&& m) (n : Nat) (hn : n < 16) (hm : m[n] = true) :
    w[n] = w'[n] := by
  have hbit : (w &&& m)[n] = (w' &&& m)[n] := by rw [h]
  simpa [hm] using hbit

/-- Words that agree on the bits the widest row fixes agree on those every row of a C-instruction fixes: bit 15 and the code. -/
theorem and_8FC0_eq_of_and_9FC0_eq {w w' : Word} (h : w &&& 0x9FC0#16 = w' &&& 0x9FC0#16) :
    w &&& 0x8FC0#16 = w' &&& 0x8FC0#16 := by
  have hsub : 0x8FC0#16 = 0x9FC0#16 &&& 0x8FC0#16 := rfl
  rw [hsub, ← BitVec.and_assoc, h, BitVec.and_assoc]

/-- The bits a C-instruction's row can fix come from the operand source and the code alone (R83). -/
theorem and_9FC0_eq_cWord {w : Word} (h : w[15] = true) :
    w &&& 0x9FC0#16 = cWord (srcField w) (codeField w) ⟨false, false, false⟩ .never &&& 0x9FC0#16 := by
  apply BitVec.eq_of_getElem_eq
  intro n hn
  rw [BitVec.getElem_and, BitVec.getElem_and, cWord, cWordU_getElem]
  interval_cases n <;> simp [h, codeField, srcField]

theorem rowMask_decodeWord_of_bit15_set {w : Word} (h : w[15] = true) :
    (decodeWord w).rowMask = 0x9FC0#16 ∨ (decodeWord w).rowMask = 0x8FC0#16 := by
  rw [decodeWord_of_bit15_set h]
  exact rowMask_functionTable_cases ..

theorem rowMatch_decodeWord_of_bit15_set {w : Word} (h : w[15] = true) : (decodeWord w).rowMatch =
    cWord (srcField w) (codeField w) ⟨false, false, false⟩ .never &&& (decodeWord w).rowMask := by
  rw [decodeWord_of_bit15_set h, rowMatch_functionTable, codeOf_bits]

/-- Every word satisfies the row of the instruction it decodes to. -/
theorem and_rowMask_decodeWord (w : Word) : w &&& (decodeWord w).rowMask = (decodeWord w).rowMatch := by
  cases h : w[15] with
  | false =>
    rw [decodeWord_of_bit15_clear h, Instr.rowMask, Instr.rowMatch]
    apply BitVec.eq_of_getElem_eq
    intro n hn
    interval_cases n <;> simp [h]
  | true =>
    have hbits := and_9FC0_eq_cWord h
    rw [rowMatch_decodeWord_of_bit15_set h]
    obtain hmask | hmask := rowMask_decodeWord_of_bit15_set h
    · rw [hmask, hbits]
    · rw [hmask, and_8FC0_eq_of_and_9FC0_eq hbits]

/-- A word that agrees with another on all the bits of the other's row has its mask: the row fixes bit 15, and in a C-instruction
the code. -/
theorem rowMask_decodeWord_eq {w w' : Word} (h : w &&& (decodeWord w').rowMask = w' &&& (decodeWord w').rowMask) :
    (decodeWord w).rowMask = (decodeWord w').rowMask := by
  cases h15 : w'[15] with
  | false =>
    rw [decodeWord_of_bit15_clear h15, Instr.rowMask] at h
    have hclear : w[15] = false := (getElem_eq_of_and_eq h 15 (by omega) rfl).trans h15
    rw [decodeWord_of_bit15_clear hclear, decodeWord_of_bit15_clear h15, Instr.rowMask, Instr.rowMask]
  | true =>
    have hfixed : w &&& 0x8FC0#16 = w' &&& 0x8FC0#16 := by
      obtain hmask | hmask := rowMask_decodeWord_of_bit15_set h15 <;> rw [hmask] at h
      · exact and_8FC0_eq_of_and_9FC0_eq h
      · exact h
    have hset : w[15] = true := (getElem_eq_of_and_eq hfixed 15 (by omega) rfl).trans h15
    rw [decodeWord_of_bit15_set hset, decodeWord_of_bit15_set h15,
      getElem_eq_of_and_eq hfixed 11 (by omega) rfl, getElem_eq_of_and_eq hfixed 10 (by omega) rfl,
      getElem_eq_of_and_eq hfixed 9 (by omega) rfl, getElem_eq_of_and_eq hfixed 8 (by omega) rfl,
      getElem_eq_of_and_eq hfixed 7 (by omega) rfl, getElem_eq_of_and_eq hfixed 6 (by omega) rfl]
    exact rowMask_functionTable ..

/-- Settles O5: every word satisfies its own row (`and_rowMask_decodeWord`); any row is the row of some word, its instruction
encoded, so a word that satisfies it agrees with that word on the row's bits, and then has its mask (`rowMask_decodeWord_eq`). -/
theorem decoderFollowsOpcodeTable : Obligations.DecoderFollowsOpcodeTable := by
  unfold Obligations.DecoderFollowsOpcodeTable
  intro w
  refine ⟨and_rowMask_decodeWord w, fun i hi => ?_⟩
  obtain ⟨w', rfl⟩ : ∃ w', decodeWord w' = i := ⟨encode i, decodeWord_encode i⟩
  have hmask := rowMask_decodeWord_eq (hi.trans (and_rowMask_decodeWord w').symm)
  exact ⟨hmask.symm, by rw [← hi, ← hmask, and_rowMask_decodeWord]⟩

end Sys2Proof

namespace Sys2Proof.Machine

open Sys2Proof.Claims

/-! ## The ALU's results as numbers (R140 to R160) -/

/-- The ALU on numbers below 65536 (42_alu_functions.md section 2). -/
def aluNat (f : AluFn) (dv xv : Nat) : Nat :=
  match f with
  | .zero => 0
  | .one => 1
  | .minusOne => 65535
  | .d => dv
  | .x => xv
  | .notD => 65535 - dv
  | .notX => 65535 - xv
  | .negD => (65536 - dv) % 65536
  | .negX => (65536 - xv) % 65536
  | .incD => (dv + 1) % 65536
  | .incX => (xv + 1) % 65536
  | .decD => (dv + 65535) % 65536
  | .decX => (xv + 65535) % 65536
  | .dPlusX => (dv + xv) % 65536
  | .dMinusX => (dv + 65536 - xv) % 65536
  | .xMinusD => (xv + 65536 - dv) % 65536
  | .dAndX => dv &&& xv
  | .dOrX => dv ||| xv
  | .unused => 0

/-- The ALU computes `aluNat`: the arithmetic functions by their unsigned readings, the logical ones by the library's. -/
theorem alu_toNat (f : AluFn) (d x : Word) : (alu f d x).toNat = aluNat f d.toNat x.toNat := by
  cases f with
  | zero | one | minusOne | d | x | unused => rfl
  | notD => exact BitVec.toNat_not
  | notX => exact BitVec.toNat_not
  | negD => exact (neg_bothReadings d).1
  | negX => exact (neg_bothReadings x).1
  | incD => exact (succ_bothReadings d).1
  | incX => exact (succ_bothReadings x).1
  | decD => exact (pred_bothReadings d).1
  | decX => exact (pred_bothReadings x).1
  | dPlusX => exact (add_bothReadings d x).1
  | dMinusX => exact (sub_bothReadings d x).1
  | xMinusD => exact (sub_bothReadings x d).1
  | dAndX => exact BitVec.toNat_and d x
  | dOrX => exact BitVec.toNat_or d x

/-! ## What each family of functions computes, in both a-forms -/

/-- An instruction with the shape of a C-instruction computes the number that `aluNat` gives for its function. -/
theorem computes_of_aluNat {i : Instr} {src : OperandSource} {f : AluFn} {d : Dest} {j : Jump} {s : State} {r : Nat}
    (hshape : shape i = .comp src f d j) (hr : aluNat f s.d.toNat (operandX src s).toNat = r) : Computes i s d j r := by
  rw [← hr, ← alu_toNat]
  exact computes_of_shape hshape s

/-- Settles O23: each constructor's shape names the constant's function, whose number is the same for every operand. -/
theorem constantFunctionsCompute : Obligations.ConstantFunctionsCompute := by
  unfold Obligations.ConstantFunctionsCompute
  intro d j s
  refine ⟨?_, ?_, ?_, ?_, ?_, ?_⟩ <;> exact computes_of_aluNat rfl rfl

/-- Settles O24: each constructor's shape names the function D or X, and for X the source A or M as its operand. -/
theorem transferFunctionsCompute : Obligations.TransferFunctionsCompute := by
  unfold Obligations.TransferFunctionsCompute
  intro d j s
  refine ⟨?_, ?_, ?_, ?_⟩ <;> exact computes_of_aluNat rfl rfl

/-- Settles O25: the complement of a word is 65535 less the word (`alu_toNat`), of D or of the operand the shape names. -/
theorem complementFunctionsCompute : Obligations.ComplementFunctionsCompute := by
  unfold Obligations.ComplementFunctionsCompute
  intro d j s
  refine ⟨?_, ?_, ?_, ?_⟩ <;> exact computes_of_aluNat rfl rfl

/-- Settles O26: negation is the difference from 65536, reduced for the operand 0 (`alu_toNat`). -/
theorem negationFunctionsCompute : Obligations.NegationFunctionsCompute := by
  unfold Obligations.NegationFunctionsCompute
  intro d j s
  refine ⟨?_, ?_, ?_, ?_⟩ <;> exact computes_of_aluNat rfl rfl

/-- Settles O27: an increment adds 1 and a decrement 65535, both modulo 65536 (`alu_toNat`). -/
theorem incrementFunctionsCompute : Obligations.IncrementFunctionsCompute := by
  unfold Obligations.IncrementFunctionsCompute
  intro d j s
  refine ⟨?_, ?_, ?_, ?_, ?_, ?_, ?_, ?_⟩ <;> exact computes_of_aluNat rfl rfl

/-- Settles O28: the sum and the two differences wrap modulo 65536 (`alu_toNat`), on D and the operand the shape names. -/
theorem sumFunctionsCompute : Obligations.SumFunctionsCompute := by
  unfold Obligations.SumFunctionsCompute
  intro d j s
  refine ⟨?_, ?_, ?_, ?_, ?_, ?_⟩ <;> exact computes_of_aluNat rfl rfl

/-- Settles O29: the bitwise functions on words are those on their numbers (`alu_toNat`). -/
theorem logicFunctionsCompute : Obligations.LogicFunctionsCompute := by
  unfold Obligations.LogicFunctionsCompute
  intro d j s
  refine ⟨?_, ?_, ?_, ?_⟩ <;> exact computes_of_aluNat rfl rfl

/-! ## The C-instruction by the raw bits of its word (R83, R120, R121) -/

/-- The ALU function of a raw function code (R87), the fallback for the 46 unused ones (R159). -/
def fnOfCode (c : Nat) : AluFn :=
  match c with
  | 42 => .zero
  | 63 => .one
  | 58 => .minusOne
  | 12 => .d
  | 48 => .x
  | 13 => .notD
  | 49 => .notX
  | 15 => .negD
  | 51 => .negX
  | 31 => .incD
  | 55 => .incX
  | 14 => .decD
  | 50 => .decX
  | 2 => .dPlusX
  | 19 => .dMinusX
  | 7 => .xMinusD
  | 0 => .dAndX
  | 21 => .dOrX
  | _ => .unused

/-- The statements' ALU is the model's for each of the 18 codes in use, and gives 0 as the fallback does for any other. -/
theorem aluNat_fnOfCode (c dv xv : Nat) : aluNat (fnOfCode c) dv xv = aluByCode c dv xv := by
  fun_cases fnOfCode c
  case case19 => simp_all [aluNat, aluByCode]
  all_goals rfl

/-- The decoder's table and the meanings together: every code, used or not, has the shape of its ALU function. -/
theorem shape_functionTable (c5 c4 c3 c2 c1 c0 : Bool) (src : OperandSource) (d : Dest) (j : Jump) :
    shape (functionTable c5 c4 c3 c2 c1 c0 src d j) = .comp src (fnOfCode (codeOf c5 c4 c3 c2 c1 c0).toNat) d j := by
  fun_cases functionTable c5 c4 c3 c2 c1 c0 src d j <;> cases src <;> rfl

/-- A C-instruction word's shape is read off its fields (R83). -/
theorem shape_decodeWord_of_bit15_set {w : Word} (h : w[15] = true) :
    shape (decodeWord w) = .comp (srcField w) (fnOfCode (codeField w).toNat) (destField w) (jumpField w) := by
  rw [decodeWord_of_bit15_set h, shape_functionTable, codeOf_bits]

/-- A bit of a word is the digit of its weight. -/
theorem getElem_eq_true_iff (w : Word) (n : Nat) (hn : n < 16) : w[n] = true ↔ w.toNat / 2 ^ n % 2 = 1 := by
  rw [← BitVec.getLsbD_eq_getElem, BitVec.getLsbD, Nat.testBit_eq_decide_div_mod_eq, decide_eq_true_iff]

theorem getElem_eq_false_iff (w : Word) (n : Nat) (hn : n < 16) : w[n] = false ↔ w.toNat / 2 ^ n % 2 = 0 := by
  rw [Bool.eq_false_iff, Ne, getElem_eq_true_iff, Nat.mod_two_not_eq_one]

theorem codeField_toNat (w : Word) : (codeField w).toNat = w.toNat / 64 % 64 := by
  rw [codeField, BitVec.extractLsb'_toNat, Nat.shiftRight_eq_div_pow]

theorem destField_toA_iff (w : Word) : (destField w).toA = true ↔ w.toNat / 32 % 2 = 1 := getElem_eq_true_iff w 5 _

theorem destField_toD_iff (w : Word) : (destField w).toD = true ↔ w.toNat / 16 % 2 = 1 := getElem_eq_true_iff w 4 _

theorem destField_toM_iff (w : Word) : (destField w).toM = true ↔ w.toNat / 8 % 2 = 1 := getElem_eq_true_iff w 3 _

/-- The operand source bit chooses between A and the RAM word at A (R85, R122). -/
theorem operandX_srcField (w : Word) (s : State) :
    operandX (srcField w) s = if w.toNat / 4096 % 2 = 1 then mOf s else s.a := by
  have hbit : w[12] = true ↔ w.toNat / 4096 % 2 = 1 := getElem_eq_true_iff w 12 _
  simp only [srcField, ← hbit]
  cases w[12] <;> rfl

/-- R89's three acceptance bits decide the condition that the jump table names. -/
theorem jumpHolds_jumpTable (j2 j1 j0 : Bool) (r : Word) : JumpHolds (jumpTable j2 j1 j0) r ↔
    (j2 = true ∧ sint16 r < 0) ∨ (j1 = true ∧ sint16 r = 0) ∨ (j0 = true ∧ sint16 r > 0) := by
  cases j2 <;> cases j1 <;> cases j0 <;> simp [jumpTable, JumpHolds] <;> omega

/-- The raw jump field decides as the decoded jump does. -/
theorem maskHolds_iff_jumpHolds (w : Word) (r : Word) : maskHolds (w.toNat % 8) r ↔ JumpHolds (jumpField w) r := by
  have h2 : w.toNat % 8 / 4 % 2 = 1 ↔ w[2] = true := by rw [getElem_eq_true_iff]; omega
  have h1 : w.toNat % 8 / 2 % 2 = 1 ↔ w[1] = true := by rw [getElem_eq_true_iff]; omega
  have h0 : w.toNat % 8 % 2 = 1 ↔ w[0] = true := by rw [getElem_eq_true_iff]; omega
  rw [maskHolds, h2, h1, h0, jumpField, jumpHolds_jumpTable]

/-- The effect of the decoded fields is the effect that the pseudocode gives for the raw bits. -/
theorem wordEffect_of_cEffect {w : Word} {s t : State} {r : Word} (h : CEffect s t (destField w) (jumpField w) r)
    (hr : r.toNat = aluByCode (w.toNat / 64 % 64) s.d.toNat (if w.toNat / 4096 % 2 = 1 then (mOf s).toNat else s.a.toNat)) :
    WordEffect w s t r where
  result := hr
  regA := by simp only [h.regA, destField_toA_iff]
  regD := by simp only [h.regD, destField_toD_iff]
  ram n := by
    simp only [← destField_toM_iff]
    split
    next hn => rw [hn.2, h.stored hn.1]
    next hn => exact h.unstored n hn
  taken hj := h.taken ((maskHolds_iff_jumpHolds w r).mp hj)
  fallThrough hj := h.fallThrough (mt (maskHolds_iff_jumpHolds w r).mpr hj)
  cc := h.cc
  rom := h.rom

/-- Settles O36: the decoded word has the shape of its fields (`shape_decodeWord_of_bit15_set`), so it has the C-instruction effect
of their ALU result; that result and those fields are what the raw bits say as numbers (`wordEffect_of_cEffect`). -/
theorem decodedWordFollowsPseudocode : Obligations.DecodedWordFollowsPseudocode := by
  unfold Obligations.DecodedWordFollowsPseudocode
  intro w s hhigh
  have hset := bit15_set_of_le hhigh
  obtain ⟨t, r, hexec, hr, heffect⟩ := computes_of_shape (shape_decodeWord_of_bit15_set hset) s
  refine ⟨t, r, hexec, wordEffect_of_cEffect heffect ?_⟩
  rw [hr, alu_toNat, aluNat_fnOfCode, codeField_toNat, operandX_srcField, apply_ite BitVec.toNat]

end Sys2Proof.Machine

namespace Sys2Proof.Machine

open Sys2Proof.Claims

/-! ## cc is counted and read by nothing (R26, R56) -/

@[simp] theorem withCc_a (s : State) (c : CcWord) : (withCc s c).a = s.a := rfl
@[simp] theorem withCc_d (s : State) (c : CcWord) : (withCc s c).d = s.d := rfl
@[simp] theorem withCc_pc (s : State) (c : CcWord) : (withCc s c).pc = s.pc := rfl
@[simp] theorem withCc_cc (s : State) (c : CcWord) : (withCc s c).cc = c := rfl
@[simp] theorem withCc_ram (s : State) (c : CcWord) : (withCc s c).ram = s.ram := rfl
@[simp] theorem withCc_rom (s : State) (c : CcWord) : (withCc s c).rom = s.rom := rfl

@[simp] theorem operandX_withCc (src : OperandSource) (s : State) (c : CcWord) :
    operandX src (withCc s c) = operandX src s := by cases src <;> rfl

/-- No instruction reads cc. -/
theorem Shape.run_withCc (sh : Shape) (s : State) (c : CcWord) : sh.run (withCc s c) = withCc (sh.run s) c := by
  cases sh with
  | imm k => rfl
  | comp src f d j => apply State.ext_fields <;> simp [Shape.run]

/-- No fetch reads cc. -/
@[simp] theorem fetch_withCc (s : State) (c : CcWord) : fetch (withCc s c) = fetch s := rfl

/-- A step from a state with another cc counts on from that cc and does the same otherwise. -/
theorem step_withCc (s : State) (c : CcWord) : step (withCc s c) =
    match step s with
    | .next t => .next (withCc t (c + 1#64))
    | .fault f => .fault f
    | .refused r => .refused r := by
  rw [step, step, fetch_withCc]
  cases fetch s with
  | word w =>
    have hcount : (withCc s c).countInstr = withCc s.countInstr (c + 1#64) := rfl
    simp only [runFetched, exec_eq, hcount, Shape.run_withCc]
  | outOfRange => rfl
  | oddAddress => rfl

theorem endAlikeButCc_refl_withCc (t : State) (c : CcWord) : EndAlikeButCc (.next t) (.next (withCc t c)) := rfl

/-- Settles O14: by induction on the length of the run. A step takes states that differ in cc alone to states that differ in cc
alone, or both to the same stop (`step_withCc`). -/
theorem ccHasNoEffect : Obligations.CcHasNoEffect := by
  unfold Obligations.CcHasNoEffect
  intro n
  induction n with
  | zero => exact fun s c => endAlikeButCc_refl_withCc s c
  | succ n ih =>
    intro s c
    rw [core_run_succ, core_run_succ, step_withCc]
    cases step s with
    | next t => exact ih t (c + 1#64)
    | fault f => rfl
    | refused r => rfl

/-- A step that answers a next state counts one instruction (R56). -/
theorem step_cc {s t : State} (h : step s = .next t) : t.cc = s.cc + 1#64 := by
  obtain ⟨w, _, _, rfl⟩ := step_next s t h
  simp

/-- A run that ends in a next state began with a step that did, and went on from there. -/
theorem core_run_succ_next {n : Nat} {s t : State} (h : Sys2Proof.core.run (n + 1) s = .next t) :
    ∃ u, step s = .next u ∧ Sys2Proof.core.run n u = .next t := by
  rw [core_run_succ] at h
  cases hstep : step s with
  | next u => rw [hstep] at h; exact ⟨u, rfl, h⟩
  | fault f => rw [hstep] at h; cases h
  | refused r => rw [hstep] at h; cases h

theorem core_run_zero_next {s t : State} (h : Sys2Proof.core.run 0 s = .next t) : t = s := by
  injection h with h
  exact h.symm

/-- Settles O13: by induction on the length of the run, one for each step (`step_cc`). -/
theorem ccCountsInstructions : Obligations.CcCountsInstructions := by
  unfold Obligations.CcCountsInstructions
  intro n
  induction n with
  | zero =>
    intro s t h
    rw [core_run_zero_next h]
    exact (Nat.mod_eq_of_lt s.cc.isLt).symm
  | succ n ih =>
    intro s t h
    obtain ⟨u, hstep, hrun⟩ := core_run_succ_next h
    rw [ih u t hrun, step_cc hstep, BitVec.toNat_add, BitVec.toNat_ofNat]
    omega

/-! ## Inside the ROM, past it, and at an odd pc (R10, R55 to R57, R59) -/

theorem decodeWord_zero : decodeWord 0#16 = .aInstr 0#15 := rfl

/-- Settles O9: past the end the fetch delivers the word 0 or fails, as `FETCH_OOB` says (`fetch_past`), and the word 0 is `@0`. -/
theorem fetchPastTheRom : Obligations.FetchPastTheRom := by
  unfold Obligations.FetchPastTheRom
  intro s heven hpast
  have hfetch := fetch_past s (pc_bit0_of_even heven) hpast
  cases hoob : Config.fetchOob with
  | zero =>
    rw [hoob] at hfetch
    rw [step_of_fetch s 0#16 hfetch, decodeWord_zero, exec_aInstr]
    exact ⟨_, rfl, rfl, nextPc_toNat s.pc, rfl, rfl, rfl, rfl⟩
  | fault =>
    rw [hoob] at hfetch
    rw [step, hfetch, runFetched]

/-- Settles O12: the fetch delivers a word (`fetch_of_inRange`), and whatever it decodes to completes (`exec_eq`). -/
theorem stepInsideRomCompletes : Obligations.StepInsideRomCompletes := by
  unfold Obligations.StepInsideRomCompletes
  intro s heven hin
  obtain ⟨w, hfetch⟩ := fetch_of_inRange (pc_bit0_of_even heven) hin
  have hstep := step_of_fetch s w hfetch
  rw [exec_eq] at hstep
  exact ⟨_, hstep, step_cc hstep, step_rom hstep⟩

/-- Settles O10: of the three ways a step can go (`step_cases`), the other two need an even pc. -/
theorem oddFetchIsRefused : Obligations.OddFetchIsRefused := by
  unfold Obligations.OddFetchIsRefused
  intro s hodd
  have hbit : s.pc[0] = true := by simp [pc_bit0, hodd]
  obtain ⟨_, heven, _, _⟩ | ⟨heven, _, _⟩ | ⟨_, _, hrefused⟩ := step_cases s
  · rw [hbit] at heven; cases heven
  · rw [hbit] at heven; cases heven
  · exact hrefused

/-! ## What one step changes (R24, R50, R124) -/

/-- Under either value of `JUMP_TARGET_A` a taken jump doubles the A from before or the A from after (R128). -/
theorem targetOf_eq (s t : State) : targetOf s t = s.a ∨ targetOf s t = t.a := by
  rw [targetOf]
  cases Config.jumpTargetA with
  | old => exact .inl rfl
  | new => exact .inr rfl

/-- Settles O16: an A-instruction moves on; a C-instruction moves on or doubles its jump target, which is one of the two A
(`targetOf_eq`). -/
theorem pcMovesOnOrJumpsToA : Obligations.PcMovesOnOrJumpsToA := by
  unfold Obligations.PcMovesOnOrJumpsToA
  intro s t h
  obtain ⟨w, _, _, rfl⟩ := step_next s t h
  cases shape (decodeWord w) with
  | imm k => exact .inl (nextPc_toNat s.pc)
  | comp src f d j =>
    have heffect := cInstr_effect src f d j s.countInstr
    by_cases hjump : JumpHolds j (alu f s.countInstr.d (operandX src s.countInstr))
    · have hpc := heffect.taken hjump
      obtain htarget | htarget := targetOf_eq s.countInstr (cInstr Config.jumpTargetA src f d j s.countInstr) <;>
        rw [htarget] at hpc
      · exact .inr (.inl hpc)
      · exact .inr (.inr hpc)
    · exact .inl (heffect.fallThrough hjump)

section
variable {s t : State} {d : Dest} {j : Jump} {r : Word}

/-- What a C-instruction changed was one of its destinations. -/
theorem toD_of_changed (h : CEffect s t d j r) (hne : t.d ≠ s.d) : d.toD = true := by
  by_contra hD
  exact hne (h.regD.trans (if_neg hD))

theorem toA_of_changed (h : CEffect s t d j r) (hne : t.a ≠ s.a) : d.toA = true := by
  by_contra hA
  exact hne (h.regA.trans (if_neg hA))

theorem toM_of_changed (h : CEffect s t d j r) {n : Nat} (hne : Memory.read t.ram n ≠ Memory.read s.ram n) :
    d.toM = true ∧ n = s.a.toNat := by
  by_contra hM
  exact hne (h.unstored n hM)

end

/-- Settles O17: bit 15 of the fetched word tells an A-instruction, which changes A alone, from a C-instruction, which changes
only its destinations. -/
theorem changesHaveTheirWriter : Obligations.ChangesHaveTheirWriter := by
  unfold Obligations.ChangesHaveTheirWriter
  intro s t h
  obtain ⟨w, _, hfetch, rfl⟩ := step_next s t h
  refine ⟨w, hfetch, ?_⟩
  cases h15 : w[15] with
  | false =>
    have hdecode := decodeWord_of_bit15_clear h15
    rw [hdecode]
    exact ⟨fun hne => absurd rfl hne, fun _ => .inl ⟨_, rfl⟩, fun n hne => absurd rfl hne⟩
  | true =>
    have hdest := decodeWord_dest?_of_bit15_set h15
    rw [shape_decodeWord_of_bit15_set h15]
    have heffect := cInstr_effect (srcField w) (fnOfCode (codeField w).toNat) (destField w) (jumpField w) s.countInstr
    refine ⟨fun hne => ⟨_, hdest, toD_of_changed heffect hne⟩, fun hne => .inr ⟨_, hdest, toA_of_changed heffect hne⟩,
      fun n hne => ?_⟩
    obtain ⟨hM, haddr⟩ := toM_of_changed heffect hne
    exact ⟨w, _, hfetch, hdest, hM, haddr.symm⟩

/-! ## The keyboard word through a batch (R65, R67) -/

/-- A step that does not store to a RAM word leaves it as it is. -/
theorem step_read_of_not_stores {s t : State} (h : step s = .next t) {n : Nat} (hn : ¬ Stores s n) :
    Memory.read t.ram n = Memory.read s.ram n := by
  obtain ⟨w, _, _, _, hram⟩ := changesHaveTheirWriter s t h
  exact not_not.mp (mt (hram n) hn)

/-- A run none of whose steps stores to a RAM word leaves it as it is. -/
theorem core_run_read_of_not_stores {addr n : Nat} {s t : State} (h : Sys2Proof.core.run n s = .next t)
    (hn : ∀ k u, k < n → Sys2Proof.core.run k s = .next u → ¬ Stores u addr) :
    Memory.read t.ram addr = Memory.read s.ram addr := by
  induction n generalizing s with
  | zero => rw [core_run_zero_next h]
  | succ n ih =>
    obtain ⟨s', hstep, hrun⟩ := core_run_succ_next h
    have hrest : ∀ k u, k < n → Sys2Proof.core.run k s' = .next u → ¬ Stores u addr := by
      intro k u hk hu
      refine hn (k + 1) u (by omega) ?_
      rw [core_run_succ, hstep]
      exact hu
    rw [ih hrun hrest, step_read_of_not_stores hstep (hn 0 s (by omega) rfl)]

/-- Settles O43: the host's write is what the word reads as at first (`Memory.read_write`), and no step of the run changes it. -/
theorem keyHoldsThroughBatch : Obligations.KeyHoldsThroughBatch := by
  unfold Obligations.KeyHoldsThroughBatch
  intro b key n t hrun hstores
  rw [core_run_read_of_not_stores hrun hstores]
  exact (Memory.read_write b.state.ram 24576 24576 key).trans (if_pos ⟨rfl, by decide⟩)

/-! ## The invariant, from construction on (R25, R31, R63) -/

/-- Settles O18: the constructed RAM and ROM are empty and pc is 0. -/
theorem constructedBlockMeetsInvariant : Obligations.ConstructedBlockMeetsInvariant := by
  unfold Obligations.ConstructedBlockMeetsInvariant
  intro cap
  exact { ramWf := rfl, pcEven := rfl, romWf := by simp [romImageOk] }

/-- Settles O19: a step runs some shape, and every shape keeps the three parts: the RAM's form (`Shape.run_ramWf`), the even pc
(`Shape.run_pcEven`) and the ROM (`Shape.run_rom`). -/
theorem stepKeepsInvariant : Obligations.StepKeepsInvariant := by
  unfold Obligations.StepKeepsInvariant
  intro cap s t hinv h
  obtain ⟨w, _, _, rfl⟩ := step_next s t h
  exact {
    ramWf := Shape.run_ramWf _ _ hinv.ramWf
    pcEven := Shape.run_pcEven _ _ hinv.pcEven
    romWf := by rw [Shape.run_rom]; exact hinv.romWf }

theorem resetState_inv {s : State} (h : Inv s) : Inv (resetState s) where
  ramWf := rfl
  pcEven := (constructedBlockMeetsInvariant Config.romMaxBytes).pcEven
  romWf := h.romWf

/-- A load, accepted or not, leaves a state that meets the invariant. -/
theorem Block.loadRom_inv {b : Block} (bytes : List Byte) (h : Inv b.state) : Inv (b.loadRom bytes).2.state := by
  unfold Block.loadRom
  cases hload : Machine.loadRom bytes b.state with
  | ok t =>
    obtain ⟨hok, rfl⟩ := loadRomUnder_ok _ _ _ _ hload
    exact { ramWf := h.ramWf, pcEven := h.pcEven, romWf := hok }
  | error e => exact h

theorem Block.step_inv {b : Block} (h : Inv b.state) : Inv b.step.2.state := by
  unfold Block.step
  cases b.fault with
  | some f => exact h
  | none =>
    cases hstep : Machine.step b.state with
    | next t => exact stepKeepsInvariant _ _ t h hstep
    | fault f => exact h
    | refused r => exact h

theorem Block.perform_inv {b : Block} (op : HostOp) (h : Inv b.state) : Inv (b.perform op).2.state := by
  cases op with
  | construct => exact constructedBlockMeetsInvariant _
  | step => exact Block.step_inv h
  | reset => exact resetState_inv h
  | loadRom bytes => exact Block.loadRom_inv bytes h
  | loadText text =>
    rw [Block.perform]
    cases parseProgram text with
    | ok bytes => exact Block.loadRom_inv bytes h
    | error e => exact h
  | ramWrite addr v => exact { ramWf := Memory.write_wf _ addr v h.ramWf, pcEven := h.pcEven, romWf := h.romWf }
  | ramRead | readA | readD | readPc | readCc => exact h

/-- Settles O20: by induction on the operations; each of them keeps the invariant (`Block.perform_inv`). -/
theorem interfaceKeepsInvariant : Obligations.InterfaceKeepsInvariant := by
  unfold Obligations.InterfaceKeepsInvariant
  intro ops
  induction ops with
  | nil => exact fun b h => h
  | cons op ops ih => exact fun b h => ih (b.perform op).2 (Block.perform_inv op h)

/-! ## The canonical form of the RAM (log 8) -/

theorem Memory.read_cons_self (k : Nat) (v : Word) (m : Memory) : Memory.read ((k, v) :: m) k = v := if_pos rfl

theorem Memory.read_cons_of_ne {k n : Nat} (v : Word) (m : Memory) (h : k ≠ n) :
    Memory.read ((k, v) :: m) n = Memory.read m n := if_neg h

/-- The first cell of a canonical RAM holds no zero, and the cells after it lie above it. -/
theorem Memory.head_of_wfFrom {lo k : Nat} {v : Word} {m : Memory} (h : Memory.wfFrom lo ((k, v) :: m) = true) :
    v ≠ 0#16 ∧ Memory.wfFrom (k + 1) m = true := by
  simp only [Memory.wfFrom, Bool.and_eq_true, bne_iff_ne] at h
  obtain ⟨⟨_, hv⟩, hm⟩ := h
  exact ⟨hv, hm⟩

/-- Below its first cell a canonical RAM reads as 0. -/
theorem Memory.read_below_head {lo k n : Nat} {v : Word} {m : Memory} (h : Memory.wfFrom lo ((k, v) :: m) = true)
    (hn : n < k) : Memory.read ((k, v) :: m) n = 0#16 := by
  rw [Memory.read_cons_of_ne v m (by omega)]
  exact Memory.read_lt m (k + 1) n (Memory.head_of_wfFrom h).2 (by omega)

/-- Of two canonical RAMs that read alike, the second has its first cell no higher than the first: the cell holds no zero. -/
theorem Memory.head_le_of_read_eq {lo lo' k k' : Nat} {v v' : Word} {m m' : Memory}
    (h : Memory.wfFrom lo ((k, v) :: m) = true) (h' : Memory.wfFrom lo' ((k', v') :: m') = true)
    (heq : Memory.read ((k, v) :: m) k = Memory.read ((k', v') :: m') k) : k' ≤ k := by
  by_contra hlt
  rw [Memory.read_cons_self, Memory.read_below_head h' (by omega)] at heq
  exact (Memory.head_of_wfFrom h).1 heq

/-- Canonical RAMs are determined by their words, cell by cell from the lowest address up. -/
theorem Memory.eq_of_read_eq {lo lo' : Nat} {m m' : Memory} (h : Memory.wfFrom lo m = true)
    (h' : Memory.wfFrom lo' m' = true) (heq : ∀ n, Memory.read m n = Memory.read m' n) : m = m' := by
  induction m generalizing lo lo' m' with
  | nil =>
    cases m' with
    | nil => rfl
    | cons c' m' =>
      obtain ⟨k', v'⟩ := c'
      have hv' : 0#16 = v' := by simpa only [Memory.read_nil, Memory.read_cons_self] using heq k'
      exact absurd hv'.symm (Memory.head_of_wfFrom h').1
  | cons c m ih =>
    obtain ⟨k, v⟩ := c
    cases m' with
    | nil =>
      have hv : v = 0#16 := by simpa only [Memory.read_nil, Memory.read_cons_self] using heq k
      exact absurd hv (Memory.head_of_wfFrom h).1
    | cons c' m' =>
      obtain ⟨k', v'⟩ := c'
      obtain rfl : k = k' :=
        le_antisymm (Memory.head_le_of_read_eq h' h (heq k').symm) (Memory.head_le_of_read_eq h h' (heq k))
      have hv : v = v' := by simpa only [Memory.read_cons_self] using heq k
      obtain ⟨_, hm⟩ := Memory.head_of_wfFrom h
      obtain ⟨_, hm'⟩ := Memory.head_of_wfFrom h'
      have htail : ∀ n, Memory.read m n = Memory.read m' n := by
        intro n
        by_cases hn : k = n
        · rw [Memory.read_lt m (k + 1) n hm (by omega), Memory.read_lt m' (k + 1) n hm' (by omega)]
        · rw [← Memory.read_cons_of_ne v m hn, heq, Memory.read_cons_of_ne v' m' hn]
      rw [hv, ih hm hm' htail]

/-- Settles O21: two canonical RAMs are canonical from address 0 up (`Memory.eq_of_read_eq`). -/
theorem canonicalRamsAreEqual : Obligations.CanonicalRamsAreEqual := by
  unfold Obligations.CanonicalRamsAreEqual
  exact fun m m' h h' => Memory.eq_of_read_eq h h'

end Sys2Proof.Machine

namespace Sys2Proof.Machine

open Sys2Proof.Claims

/-! ## Forms, jumps and pairs of C-instructions (R93, R125, R171 to R178, R216) -/

/-- A function that does not use X gives both operand sources the same meaning (R93). -/
theorem exec_eq_of_ignores_x {i i' : Instr} {src src' : OperandSource} {f : AluFn} {d : Dest} {j : Jump}
    (hi : shape i = .comp src f d j) (hi' : shape i' = .comp src' f d j) (hf : ∀ v x x' : Word, alu f v x = alu f v x')
    (s : State) : exec i s = exec i' s := by
  rw [exec_eq, exec_eq, hi, hi', Shape.run, Shape.run, cInstr, cInstr, hf s.d (operandX src s) (operandX src' s)]

/-- Settles O31: the shapes of the two forms differ in the operand source alone, and none of the eight functions has X in its
result. -/
theorem formsIgnoringXAgree : Obligations.FormsIgnoringXAgree := by
  unfold Obligations.FormsIgnoringXAgree
  intro d j s
  refine ⟨?_, ?_, ?_, ?_, ?_, ?_, ?_, ?_⟩ <;> exact exec_eq_of_ignores_x rfl rfl (fun _ _ _ => rfl) s

/-- Settles O38: the second instruction's operand and its jump target are the A that `@k` left, which is k (`immediate_toNat`). -/
theorem nextInstructionSeesNewA : Obligations.NextInstructionSeesNewA := by
  unfold Obligations.NextInstructionSeesNewA
  intro k s
  refine ⟨_, exec_aInstr k s, ⟨_, exec_eq _ _, ?_⟩, ⟨_, exec_eq _ _, ?_⟩⟩
  · simp [shape, Shape.run, alu, operandX, immediate_toNat]
  · simp [shape, Shape.run, jumpCond, jumpTarget, slotAddress_toNat, immediate_toNat]

/-- A C-instruction with no destination moves pc and nothing else. -/
theorem cInstr_no_dest (p : JumpTargetA) (src : OperandSource) (f : AluFn) (j : Jump) (s : State) :
    cInstr p src f ⟨false, false, false⟩ j s =
      s.setPc (if jumpCond j (alu f s.d (operandX src s)) then slotAddress s.a else nextPc s.pc) := rfl

theorem cInstr_no_dest_pc_toNat (p : JumpTargetA) (src : OperandSource) (f : AluFn) (j : Jump) (s : State) :
    (cInstr p src f ⟨false, false, false⟩ j s).pc.toNat =
      if jumpCond j (alu f s.d (operandX src s)) then 2 * s.a.toNat else (s.pc.toNat + 2) % 131072 := by
  rw [cInstr_no_dest, State.setPc_pc]
  split
  · exact slotAddress_toNat s.a
  · exact nextPc_toNat s.pc

/-- The ranges of a result, as an unsigned number, on which each condition is taken (43_jump_conditions.md section 2). -/
theorem jumpCond_iff_range (j : Jump) (r : Word) : jumpCond j r = true ↔
    (j = .jgt ∧ 1 ≤ r.toNat ∧ r.toNat ≤ 0x7FFF) ∨ (j = .jeq ∧ r.toNat = 0) ∨ (j = .jge ∧ r.toNat ≤ 0x7FFF) ∨
      (j = .jlt ∧ 0x8000 ≤ r.toNat) ∨ (j = .jne ∧ r.toNat ≠ 0) ∨
      (j = .jle ∧ (r.toNat = 0 ∨ 0x8000 ≤ r.toNat)) ∨ j = .jmp := by
  have hr := r.isLt
  rw [← jumpHolds_iff_jumpCond]
  cases j <;> simp only [JumpHolds, sint16, reduceCtorEq, false_and, true_and, false_or, or_false] <;> split <;> omega

/-- Settles O33: with no destination the instruction moves pc alone (`cInstr_no_dest`), to where the condition on D sends it, and
the condition holds on its range (`jumpCond_iff_range`). -/
theorem jumpConditionRanges : Obligations.JumpConditionRanges := by
  unfold Obligations.JumpConditionRanges
  intro j s
  refine ⟨_, exec_eq _ s, rfl, rfl, rfl, rfl, rfl, ?_⟩
  rw [shape, Shape.run, cInstr_no_dest_pc_toNat]
  simp only [alu, jumpCond_iff_range]

/-! ## The empty destination (41_c_instruction.md section 3) -/

theorem destField_eq_none {w : Word} (h : w.toNat / 8 % 8 = 0) : destField w = ⟨false, false, false⟩ := by
  have hA : w[5] = false := by rw [getElem_eq_false_iff]; omega
  have hD : w[4] = false := by rw [getElem_eq_false_iff]; omega
  have hM : w[3] = false := by rw [getElem_eq_false_iff]; omega
  rw [destField, hA, hD, hM]

/-- Setting bit 4 of a C-instruction word adds D to its destinations and changes no other field (R83, R88). -/
theorem shape_decodeWord_or_0010 {w : Word} (h : w[15] = true) : shape (decodeWord (w ||| 0x0010#16)) =
    .comp (srcField w) (fnOfCode (codeField w).toNat) { destField w with toD := true } (jumpField w) := by
  have hset : (w ||| 0x0010#16)[15] = true := by simp [h]
  have hsrc : srcField (w ||| 0x0010#16) = srcField w := by simp [srcField]
  have hdest : destField (w ||| 0x0010#16) = { destField w with toD := true } := by simp [destField]
  have hjump : jumpField (w ||| 0x0010#16) = jumpField w := by simp [jumpField]
  have hcode : codeField (w ||| 0x0010#16) = codeField w := by rw [← codeOf_bits, ← codeOf_bits]; simp
  rw [shape_decodeWord_of_bit15_set hset, hsrc, hcode, hdest, hjump]

/-- The raw jump bits decide as the model's condition does. -/
theorem maskHolds_iff_jumpCond (w r : Word) : maskHolds (w.toNat % 8) r ↔ jumpCond (jumpField w) r = true :=
  (maskHolds_iff_jumpHolds w r).trans (jumpHolds_iff_jumpCond ..)

/-- Settles O35: the word has no destination (`destField_eq_none`), so it moves pc alone; the word with bit 4 set differs in the
destination D alone (`shape_decodeWord_or_0010`), so it takes the same jump, and what it gives D is the result the jump reads. -/
theorem emptyDestinationOnlyMovesPc : Obligations.EmptyDestinationOnlyMovesPc := by
  unfold Obligations.EmptyDestinationOnlyMovesPc
  intro w s hhigh hdest
  have hset := bit15_set_of_le hhigh
  refine ⟨_, _, exec_eq _ s, exec_eq _ s, ?_⟩
  rw [shape_decodeWord_or_0010 hset, shape_decodeWord_of_bit15_set hset, destField_eq_none hdest]
  refine ⟨rfl, rfl, rfl, rfl, rfl, rfl, fun hjump => ?_, fun hjump => ?_⟩
  · exact (cInstr_no_dest_pc_toNat ..).trans (if_pos ((maskHolds_iff_jumpCond w _).mp hjump))
  · exact (cInstr_no_dest_pc_toNat ..).trans (if_neg (mt (maskHolds_iff_jumpCond w _).mpr hjump))

/-! ## The operand A reads no RAM (R122) -/

@[simp] theorem withRam_ram (s : State) (m : Memory) : (withRam s m).ram = m := rfl

/-- With the operand A another RAM makes no difference but in the RAM. -/
theorem cInstr_regA_withRam (p : JumpTargetA) (f : AluFn) (d : Dest) (j : Jump) (s : State) (m : Memory) :
    cInstr p .regA f d j (withRam s m) = withRam (cInstr p .regA f d j s) (cInstr p .regA f d j (withRam s m)).ram := by
  obtain ⟨dA, dD, dM⟩ := d
  cases dA <;> cases dD <;> cases dM <;> rfl

/-- Settles O37: an A-instruction has no operand; a C-instruction with bit 12 clear has the operand A, so another RAM changes only
the RAM it leaves (`cInstr_regA_withRam`), and there only the destination M is written (`cInstr_read`). -/
theorem operandAReadsNoRam : Obligations.OperandAReadsNoRam := by
  unfold Obligations.OperandAReadsNoRam
  intro w s m hno
  refine ⟨_, _, exec_eq _ s, exec_eq _ (withRam s m), ?_⟩
  cases h15 : w[15] with
  | false =>
    have hlow : ¬ 32768 ≤ w.toNat := Nat.not_le.mpr (lt_of_bit15_clear h15)
    rw [decodeWord_of_bit15_clear h15]
    exact ⟨rfl, rfl, rfl, rfl, rfl, fun hM => absurd hM.1 hlow, fun n _ => ⟨rfl, rfl⟩⟩
  | true =>
    have hhigh := le_of_bit15_set h15
    have hbit : w[12] = false := by rw [getElem_eq_false_iff]; omega
    have hsrc : srcField w = .regA := by rw [srcField, hbit, OperandSource.ofBit]
    have hM : 32768 ≤ w.toNat ∧ w.toNat / 8 % 2 = 1 ↔ (destField w).toM = true := by
      rw [destField_toM_iff]; exact and_iff_right hhigh
    rw [shape_decodeWord_of_bit15_set h15, hsrc]
    simp only [hM, Shape.run]
    rw [cInstr_regA_withRam]
    refine ⟨rfl, rfl, rfl, rfl, rfl, fun hstore => ?_, fun n hn => ?_⟩
    · rw [withRam_ram, cInstr_read, cInstr_read, if_pos ⟨hstore, rfl⟩, if_pos ⟨hstore, rfl⟩]
      rfl
    · rw [withRam_ram, cInstr_read, cInstr_read]
      exact ⟨if_neg hn, if_neg hn⟩

end Sys2Proof.Machine

namespace Sys2Proof.Machine

open Sys2Proof.Claims

/-! ## The loader reads back what is written (R75) -/

/-- The ASCII digit of one bit of a word. -/
def digitAt (w : Word) (n : Nat) : Byte := if w.toNat / 2 ^ n % 2 = 1 then 0x31#8 else 0x30#8

theorem digits_eq_map_range (w : Word) : digits w = (List.range 16).reverse.map (digitAt w) := rfl

/-- The bits above bit n, with the digit of bit n pushed on, are the bits from bit n up. -/
theorem pushDigit_digitAt (w : Word) (n : Nat) : pushDigit (w >>> (n + 1)) (digitAt w n) = w >>> n := by
  have hbit : (digitAt w n == 0x31#8) = w.getLsbD n := by
    rw [BitVec.getLsbD, Nat.testBit_eq_decide_div_mod_eq, digitAt]
    split
    next h => simp [h]
    next h => simp [h]
  rw [pushDigit, hbit]
  apply BitVec.eq_of_getLsbD_eq
  intro i hi
  rw [BitVec.getLsbD_or, BitVec.getLsbD_shiftLeft]
  cases i with
  | zero => simp
  | succ i => simp [hi, Nat.add_right_comm n 1 i, Nat.add_assoc]

/-- Reading the lowest n digits of a word, with the higher ones read already, gives the word. -/
theorem foldl_pushDigit_range (w : Word) (n : Nat) :
    ((List.range n).reverse.map (digitAt w)).foldl pushDigit (w >>> n) = w := by
  induction n with
  | zero => simp
  | succ n ih =>
    rw [List.range_succ, List.reverse_append, List.reverse_singleton, List.singleton_append, List.map_cons,
      List.foldl_cons, pushDigit_digitAt, ih]

theorem foldl_pushDigit_digits (w : Word) : (digits w).foldl pushDigit 0 = w := by
  have hzero : w >>> 16 = 0 := BitVec.ushiftRight_eq_zero le_rfl
  rw [digits_eq_map_range, ← hzero, foldl_pushDigit_range w 16]

/-- A word's two ROM bytes as the statements write them (R58). -/
theorem hiByte_eq (w : Word) : hiByte w = BitVec.ofNat 8 (w.toNat / 256) := by
  apply BitVec.eq_of_toNat_eq
  rw [hiByte, BitVec.extractLsb'_toNat, Nat.shiftRight_eq_div_pow, BitVec.toNat_ofNat]

theorem loByte_eq (w : Word) : loByte w = BitVec.ofNat 8 (w.toNat % 256) := by
  apply BitVec.eq_of_toNat_eq
  rw [loByte, BitVec.extractLsb'_toNat, BitVec.toNat_ofNat]
  simp

theorem groupBytes_cons (w : Word) (terminator : Byte) (gs : List (Word × Byte)) :
    groupBytes ((w, terminator) :: gs) = hiByte w :: loByte w :: groupBytes gs := by
  rw [groupBytes, hiByte_eq, loByte_eq]

/-- Whole groups put their words' bytes before what the rest of the text gives. -/
theorem parseProgram_groupText_append (gs : List (Word × Byte)) {rest bytes : List Byte}
    (h : parseProgram rest = .ok bytes) : parseProgram (groupText gs ++ rest) = .ok (groupBytes gs ++ bytes) := by
  induction gs with
  | nil => exact h
  | cons g gs ih =>
    obtain ⟨w, terminator⟩ := g
    rw [groupText, List.append_assoc, List.cons_append, parseProgram_group, ih, foldl_pushDigit_digits, groupBytes_cons]
    rfl

/-- A last group needs no terminator. -/
theorem parseProgram_unterminated (w : Word) : parseProgram (digits w) = .ok [hiByte w, loByte w] := by
  have h := parseProgram_digits (ds := digits w) [] (fun _ => isDigit_of_mem_digits) (digits_length w).le
  rw [List.append_nil, digits_length, foldl_pushDigit_digits] at h
  exact h

/-- Settles O45: whole groups give their words' bytes before those of the rest (`parseProgram_groupText_append`), and the rest is
empty, a sentinel with anything after it, or a last group without a terminator. -/
theorem loaderReadsWhatIsWritten : Obligations.LoaderReadsWhatIsWritten := by
  unfold Obligations.LoaderReadsWhatIsWritten
  intro gs
  refine ⟨?_, fun tail => ?_, fun w => ?_⟩
  · have hend : parseProgram [] = .ok [] := rfl
    simpa using parseProgram_groupText_append gs hend
  · have hsentinel : parseProgram (0#8 :: tail) = .ok [] := rfl
    simpa using parseProgram_groupText_append gs hsentinel
  · rw [groupBytes_cons, groupBytes]
    exact parseProgram_groupText_append gs (parseProgram_unterminated w)

/-! ## Host RAM access (R66) -/

/-- A canonical RAM reads as 0 past its 65536 words, which is what the host is to get there. -/
theorem Memory.read_eq_ite (m : Memory) (addr : Nat) (h : Memory.wf m = true) :
    Memory.read m addr = if addr < 65536 then Memory.read m addr else 0 := by
  split
  · rfl
  · exact Memory.read_past m 0 addr h (Nat.not_lt.mp ‹_›)

theorem Memory.write_past (m : Memory) {addr : Nat} (v : Word) (h : 65536 ≤ addr) : Memory.write m addr v = m :=
  if_neg (Nat.not_lt.mpr h)

/-- Settles O40: reads past the RAM give 0 in the canonical form (`Memory.read_eq_ite`), a read after a write is
`Memory.read_write`, and a write past the RAM changes nothing (`Memory.write_past`). -/
theorem hostRamAccess : Obligations.HostRamAccess := by
  unfold Obligations.HostRamAccess
  intro b addr v hwf
  refine ⟨?_, fun n => ?_, fun hpast => ?_, ⟨_, rfl⟩⟩
  · rw [← Memory.read_eq_ite b.state.ram addr hwf]
    rfl
  · exact congrArg HostReply.word (Memory.read_write b.state.ram addr n v)
  · have hram : Memory.write b.state.ram addr v = b.state.ram := Memory.write_past b.state.ram v hpast
    rw [Block.perform, Block.ramWrite, hram]
    rfl

/-! ## ROM load (R6, R63) -/

/-- An image too long for the capacity is rejected by that name if it has no other defect (R63). -/
theorem romLoadCheck_of_even_too_long {cap : Nat} {bytes : List Byte} (heven : bytes.length % 2 = 0)
    (hlong : cap < bytes.length) : romLoadCheck cap bytes = some .romTooLarge := by
  simp [romLoadCheck, heven, hlong]

/-- An image of odd length is rejected by that name if it has no other defect (R63). -/
theorem romLoadCheck_of_odd_in_capacity {cap : Nat} {bytes : List Byte} (hodd : bytes.length % 2 = 1)
    (hfits : bytes.length ≤ cap) : romLoadCheck cap bytes = some .romOddLength := by
  simp [romLoadCheck, hodd, Nat.not_lt.mpr hfits]

/-- With both defects the name is left open (log 7). -/
theorem romLoadCheck_of_odd_too_long {cap : Nat} {bytes : List Byte} (hodd : bytes.length % 2 = 1)
    (hlong : cap < bytes.length) : romLoadCheck cap bytes = some (Config.rejectionWhenBoth bytes) := by
  simp [romLoadCheck, hodd, hlong]

theorem romImageOk_of_even {cap : Nat} {bytes : List Byte} (heven : bytes.length % 2 = 0) (hfits : bytes.length ≤ cap) :
    romImageOk cap bytes = true := by
  simp [romImageOk, heven, hfits]

/-- Settles O41: one lemma on the load check for each of the four cases of length and capacity; the capacity is twice a number up
to 65536; and the block's load is that load. -/
theorem romLoadAcceptsOrRejects : Obligations.RomLoadAcceptsOrRejects := by
  unfold Obligations.RomLoadAcceptsOrRejects
  refine ⟨fun cap bytes s => ⟨fun heven hle => ?_, fun heven hlt => ?_, fun hodd hle => ?_, fun hodd hlt => ?_⟩, ?_,
    fun b bytes => ?_⟩
  · rw [loadRomUnder, (romLoadCheck_eq_none ..).mpr (romImageOk_of_even heven hle), State.setRom]
  · rw [loadRomUnder, romLoadCheck_of_even_too_long heven hlt]
  · rw [loadRomUnder, romLoadCheck_of_odd_in_capacity hodd hle]
  · rw [loadRomUnder, romLoadCheck_of_odd_too_long hodd hlt]
    exact ⟨_, rfl⟩
  · have hslots := Config.romSlots.isLt
    rw [Config.romMaxBytes]
    omega
  · rfl

/-! ## The recorded fault (R195, R211) -/

theorem Block.loadRom_fault (bytes : List Byte) (b : Block) : (b.loadRom bytes).2.fault = b.fault := by
  unfold Block.loadRom
  split <;> rfl

theorem Block.step_of_fault {b : Block} {f : Fault} (h : b.fault = some f) : b.step = (.faulted f, b) := by
  rw [Block.step, h]

/-- A recorded fault survives every operation that does not begin a new run (log 11). -/
theorem Block.perform_fault {b : Block} {f : Fault} (h : b.fault = some f) {op : HostOp} (hreset : op ≠ .reset)
    (hconstruct : op ≠ .construct) : (b.perform op).2.fault = some f := by
  cases op with
  | construct => exact absurd rfl hconstruct
  | reset => exact absurd rfl hreset
  | step => rw [Block.perform, Block.step_of_fault h]; exact h
  | loadRom bytes => exact (Block.loadRom_fault bytes b).trans h
  | loadText text =>
    rw [Block.perform]
    cases parseProgram text with
    | ok bytes => exact (Block.loadRom_fault bytes b).trans h
    | error e => exact h
  | ramRead | ramWrite | readA | readD | readPc | readCc => exact h

/-- Settles O42: without a recorded fault the block's step follows the core's, outcome by outcome; with one,
`Block.step_of_fault` and `Block.perform_fault` keep it, and `reset` and `construct` make a block without. -/
theorem faultIsKeptUntilReset : Obligations.FaultIsKeptUntilReset := by
  unfold Obligations.FaultIsKeptUntilReset
  constructor
  · intro b hnone
    rw [Block.perform, Block.step, hnone]
    cases step b.state <;> rfl
  · intro b f hf
    exact ⟨Block.step_of_fault hf, fun op => Block.perform_fault hf, rfl, rfl⟩

/-! ## The screen (R64) -/

/-- A store changes the 16 pixels of its word and no other. -/
theorem screenPixel_write {m : Memory} {a : Nat} (v : Word) (y x : Nat) (ha : a < 65536) :
    screenPixel (Memory.write m a v) y x =
      if a = 16384 + 32 * y + x / 16 then v.getLsbD (x % 16) else screenPixel m y x := by
  have hin : a < Config.ramWords := ha
  simp only [screenPixel, Memory.read_write, Config.screenBase, hin, and_true, eq_comm (a := a)]
  split <;> rfl

/-- Settles O44: pixel (y, x) is bit `x % 16` of word `16384 + 32 * y + x / 16`, so word and bit determine row and column, and
`screenPixel_write` gives the pixels after a store. -/
theorem screenPixelsAreTheBufferBits : Obligations.ScreenPixelsAreTheBufferBits := by
  unfold Obligations.ScreenPixelsAreTheBufferBits
  refine ⟨fun m y x a v hy hx ha => ⟨by omega, screenPixel_write v y x ha⟩,
    fun y x y' x' hy hx hy' hx' hword hbit => by omega, fun m a n hlo hhi hn => ?_⟩
  refine ⟨(a - 16384) / 32, (a - 16384) % 32 * 16 + n, by omega, by omega, ?_⟩
  have hword : 16384 + 32 * ((a - 16384) / 32) + ((a - 16384) % 32 * 16 + n) / 16 = a := by omega
  have hbit : ((a - 16384) % 32 * 16 + n) % 16 = n := by omega
  rw [screenPixel, Config.screenBase, hword, hbit]

/-! ## The constructed block and written-out words (R33, R82, R83) -/

/-- Settles O1: the `State.reset_` lemmas, and every read of the empty RAM. -/
theorem constructedBlockIsZero : Obligations.ConstructedBlockIsZero := by
  unfold Obligations.ConstructedBlockIsZero
  exact ⟨State.reset_a, State.reset_d, State.reset_pc, State.reset_cc, Memory.read_nil, State.reset_rom⟩

/-- Settles O3: the decoder evaluated on each word. -/
theorem sampleWordsDecode : Obligations.SampleWordsDecode := by
  unfold Obligations.SampleWordsDecode
  exact ⟨rfl, rfl, rfl, rfl, rfl, rfl, rfl, rfl, rfl⟩

end Sys2Proof.Machine
